-- ==== Sys2Proof/Word.lean ====
section
/-! DEFINITION. The words and bytes of the TC64: the 16-bit data word of the processor bus and of the
store bus (spec/00 section 5), and the byte of the peer link (R159). -/

namespace Sys2Proof

/-- A 16-bit word of the processor bus, of the store bus and of the control channel. -/
abbrev Word := BitVec 16

/-- One byte of the peer link, and one byte field of a word. -/
abbrev Byte := BitVec 8

end Sys2Proof
end

