-- ==== Sys2Proof/Syntax.lean ====
section
/-! DEFINITION. The steps of the TC64: one constructor for each row of spec/opcode_table.json, and the
operands that the outside gives with a step. A row whose data the part already holds (the cycle that
the processor port keeps, the frame that the receiver holds, the sweep that executes) has no operand;
a row that the boundary evaluation takes for one record names that record's copper port. -/

namespace Sys2Proof

/-- A copper port 0–63, the number of a trunk record (R1, R18). -/
abbrev Port := Fin 64

/-- A cycle that the call processor makes on its bus: the 11 address lines and, for a write, the 16
data bits (R37). -/
inductive BusCycle where
  | read  (address : BitVec 11)
  | write (address : BitVec 11) (data : Word)
deriving DecidableEq, Repr

/-- A character that arrives on RXD: a byte, or a character whose stop bit is found low (R159). -/
inductive Character where
  | byte (value : Byte)
  | inError
deriving DecidableEq, Repr

/-- The levels of the straps SITE, WIN and BAUD (spec/00 section 5). -/
structure Straps where
  site : Byte
  win  : BitVec 6
  baud : BitVec 2
deriving DecidableEq, Repr

/-- The steps of the part, one constructor per row of spec/opcode_table.json, in the table's order. -/
inductive Instr where
  /-- PROCESSOR_CYCLE (R37): the processor starts this cycle. -/
  | processorCycle (cycle : BusCycle)
  | processorWrite
  | processorRead
  | channelRead
  | parameterWord
  | unknownCommand
  | status
  | bind
  | unbind
  | groups
  | lock
  | unlock
  | pin
  | eraseImage
  | start
  | bridge
  | roll
  | disarm
  | release
  | fallback
  | abort
  | recensus
  | auto
  | hold
  | clearHold
  | queryTrunk
  | queryFaults
  | clearFaults
  | setAction
  | setTiming
  | readStore
  | readStoreAccess
  | queryIndex
  | close
  | prepareUnit
  | censusUnit
  | bridgeUnit
  | rollUnit
  | unrollUnit
  | releaseUnit
  | unbridgeUnit
  | prepareCompletion
  | censusCompletion
  | bridgeCompletion
  | rollCompletion
  | unrollCompletion
  | releaseCompletion
  | unbridgeCompletion
  /-- FS_PULSE (R99): a frame pulse, with or without MFS. -/
  | fsPulse (mfs : Bool)
  | mfsMiss
  | adriftEntry
  | fsAbsence
  | multiframeBoundary
  /-- SOAK_EXPIRY (R134) of this record. -/
  | soakExpiry (record : Port)
  /-- AUTO_START (R128) of this record. -/
  | autoStart (record : Port)
  /-- AUTO_BRIDGE (R128) of this record. -/
  | autoBridge (record : Port)
  /-- ARMING (R129) of this record. -/
  | arming (record : Port)
  /-- RETURN_TO_BRIDGED (R130) of this record. -/
  | returnToBridged (record : Port)
  | rollStart
  /-- RELEASE_AT_BOUNDARY (R135) of this record. -/
  | releaseAtBoundary (record : Port)
  | beaconCountdownExpiry
  | beaconTransmit
  | transmitComplete
  | peerSilent
  | beaconFrame
  | alarmFrame
  | frameIgnored
  | frameDiscard
  | gapExpiry
  | imageProgrammed
  | imageErased
  | imageLoad
  /-- POWER_ON_RESET (R55): the strap levels at the reset, and how many store accesses of the unit in
  progress had been made when the reset took effect. -/
  | powerOnReset (straps : Straps) (accessesMade : Nat)
  | prst
  | commandWord
  /-- BYTE_TAKEN (R162): this character arrives on RXD. -/
  | byteTaken (character : Character)
deriving DecidableEq, Repr

end Sys2Proof
end

