-- ==== Sys2Proof/WellFormed.lean ====
section
/-! DEFINITION. Which steps are well formed. The types of the operands already bound addresses (R37),
copper ports (R18) and straps (spec/00 section 5); what is left to check is the count of accesses that
a power-on reset lets a store unit make. -/

namespace Sys2Proof

/-- The most store accesses that one store unit makes (R42). -/
def maxUnitAccesses : Nat := 2

/-- A step is well formed when a power-on reset cuts a unit after at most the accesses a unit has
(R42, R55). -/
def Instr.wellFormed : Instr → Bool
  | .powerOnReset _ accessesMade => accessesMade ≤ maxUnitAccesses
  | _ => true

end Sys2Proof
end

