-- ==== Sys2Proof/Decode.lean ====
section
/-! DEFINITION. The steps that a word spells by the bits of spec/opcode_table.json. No row of that table
gives bits ("fields" is empty in all 76, and no row has "fixed"): the steps of this block are cycles,
pulses and events, and the words that the processor writes at the window reach the part inside a
PROCESSOR_CYCLE. So no word spells a step. -/

namespace Sys2Proof

/-- The step that the `nbits`-bit word `w` spells by the table's bits: none, as no row has bits. -/
def decodeTableWord (_nbits _w : Nat) : Option Instr := none

end Sys2Proof
end

