-- ==== Sys2Proof/Config.lean ====
section
/-! DEFINITION. What the spec leaves to the site or to the implementation, and the free values. A free
value is an opaque constant: nothing can be proved of what it answers. -/

namespace Sys2Proof.Config

/-- DESIGN CHOICE (log 4): the strap levels at the reset that `State.reset` stands after. The spec's
worked examples use SITE 3 (section 7.12, section 9.11) and WIN 63 (section 11.7), and BAUD 1 fits the
2.17 ms of section 9.11. -/
def resetStraps : Straps := { site := 3, win := 63, baud := 1 }

/-- DESIGN CHOICE (log 5): what a word of the connection store reads as that no store write of this run
has reached: the idle word (R3). The spec says only that the store keeps whatever it held (R17). -/
def unlistedWord : Word := 0

/-- DESIGN CHOICE (log 6): the data bus value that stands before any read has been served. -/
def resetReadData : Word := 0

/-- Free value (log 7): what a response word holds in the bits of an item that is absent, where the spec
gives only a clear presence mark (R203, R204). Its arguments are a fresh number of the run and the number of
the word. -/
opaque absentBits : Nat → Nat → Word

/-- Free value (log 8): whether an image slot that was not blank is blank (or else failing) after a
power-on reset cut an erase short (R33). Its arguments are a fresh number of the run and the slot. -/
opaque eraseLeavesBlank : Nat → Nat → Bool

end Sys2Proof.Config
end

