-- ==== Sys2Proof/Machine/State.lean ====
section
/-! DEFINITION. The state of the TC64 as plain data: the ports, the connection store it owns, the trunk
table, the binding image, the listener index, the sweep queue, the timing unit, the peer link, the fault
collector and the control channel, and `State.reset`, the machine right after power-on reset. -/

namespace Sys2Proof.Machine

/-! ## Channels and connection words (R1 to R10) -/

/-- A slot 0–31 of a port (R1). -/
abbrev Slot := Fin 32

/-- A fibre port: index i stands for fibre port 64 + i (R1). -/
abbrev FibrePort := Fin 64

/-- An address of the connection store, a physical channel 0–4095 (R1). -/
abbrev Physical := BitVec 12

/-- A listed address or listed channel 0–2047 (R1). -/
abbrev Listed := BitVec 11

/-- A channel map: the fibre slot of each copper slot (R8). -/
abbrev ChannelMap := Vector Slot 32

/-- The modes of a connection word (section 1.2). -/
inductive Mode where
  | idle | connect | tone | monitor
deriving DecidableEq, Repr

/-- Where writes to a port's output words land (R6). -/
inductive OutputState where
  | native | split | moved
deriving DecidableEq, Repr

/-- In which form sources on a port are written (R6). -/
inductive TalkerState where
  | copper | fibre
deriving DecidableEq, Repr

/-! ## Trunk records (R18) -/

/-- The phases of a trunk record (R18). -/
inductive Phase where
  | free | bound | census | tracked | bridging | bridged | armed | rolling | rolled | releasing
  | migrated | unrolling | unbridging
deriving DecidableEq, Repr

/-- The lock of a trunk record (R27). -/
inductive Lock where
  | unlocked | locked | pinned
deriving DecidableEq, Repr

/-- Where a return phase leads (R142). -/
inductive UndoTarget where
  | bridged | bound
deriving DecidableEq, Repr

/-- The items that R18 marks "bound": present from the event that binds the record until it is FREE. -/
structure Binding where
  fibre       : FibrePort
  circuit     : Word
  map         : ChannelMap
  digest      : Nat
  prepared    : Bool
  fibreAlarm  : Bool
deriving DecidableEq, Repr

/-- A trunk record (R18). The auto flag is yes exactly when the auto lead is present. The listener count
is computed from the index (`State.listenerCount`). -/
structure TrunkRecord where
  phase          : Phase
  binding        : Option Binding
  groups         : List (Fin 7)
  lock           : Lock
  autoLead       : Option Nat
  rollRequest    : Option Nat
  releaseRequest : Bool
  epoch          : Option Word
  rollStart      : Option Word
  soak           : Option Nat
  commit         : Bool
  undo           : Option UndoTarget
  indexLost      : Bool
  lingering      : Bool
deriving DecidableEq, Repr

/-- A FREE record (R18, R36). -/
def TrunkRecord.freeRecord : TrunkRecord where
  phase          := .free
  binding        := none
  groups         := []
  lock           := .unlocked
  autoLead       := none
  rollRequest    := none
  releaseRequest := false
  epoch          := none
  rollStart      := none
  soak           := none
  commit         := false
  undo           := none
  indexLost      := false
  lingering      := false

/-! ## The binding image (R30) -/

/-- What a programmed image slot holds beside its check value (R30). The load itself tests the fibre port
and the map (R34), so both are kept as stored: the map's entries as bytes, the fibre port as a number. -/
structure SlotRecord where
  copper  : Port
  fibre   : Byte
  circuit : Word
  map     : Vector Byte 32
  groups  : List (Fin 7)
deriving DecidableEq, Repr

/-- An image slot: blank, failing its check, or a slot record whose check value agrees (R30). -/
inductive ImageSlot where
  | blank
  | failing
  | good (content : SlotRecord)
deriving DecidableEq, Repr

/-- The image state (R30). PROGRAMMING carries the slot and the content that PIN fixed (R31). -/
inductive ImageState where
  | ready
  | loading
  | programming (slot : Port) (content : SlotRecord)
  | erasing
deriving DecidableEq, Repr

/-- The binding image (R30). -/
structure BindingImage where
  state : ImageState
  slots : Vector ImageSlot 64
deriving DecidableEq, Repr

/-! ## The processor port and the arbiter (R37, R44) -/

/-- The class that the port gives a cycle when it takes it (R37). -/
inductive CycleClass where
  | store | channel
deriving DecidableEq, Repr

/-- The cycle that the port keeps until READY (R37). A cycle taken during the power-on load has no class
yet: the port classes it when the load ends (R36, R55). -/
structure HeldCycle where
  cycle : BusCycle
  cls   : Option CycleClass
deriving DecidableEq, Repr

/-- The processor port: the cycle whose READY is withheld, and the data last put on the bus (R37). -/
structure ProcessorPort where
  cycle    : Option HeldCycle
  readData : Word
deriving DecidableEq, Repr

/-- The processor units of R42. -/
inductive ProcessorUnit where
  | read  (address : Listed)
  | write (address : Listed) (data : Word)
  | raw   (address : Physical)
deriving DecidableEq, Repr

/-- The kinds of sweeps (R77). -/
inductive SweepKind where
  | prepare | census | bridge | roll | unroll | release | unbridge
deriving DecidableEq, Repr

/-- A unit that holds the connection store (R42, R44). A sweep unit's class follows from its kind. -/
inductive StoreUnit where
  | processor (unit : ProcessorUnit)
  | sweep (kind : SweepKind) (trunk : Port)
deriving DecidableEq, Repr

/-- The arbiter (R44). The sweep offer is computed from the sweep queue (`State.sweepOffer`, R80). -/
structure Arbiter where
  inProgress : Option StoreUnit
  waiting    : Option ProcessorUnit
  allowance  : Nat
deriving DecidableEq, Repr

/-! ## The listener index (R57) -/

/-- A talker T:k, a slot of a copper port (R57). -/
structure Talker where
  port : Port
  slot : Slot
deriving DecidableEq, Repr

/-- A link in use: a talker and the address of the word that listens to it (R58). -/
structure Link where
  talker   : Talker
  listener : Physical
deriving DecidableEq, Repr

/-! ## Sweeps (R77, R78) -/

/-- The cursor of a sweep record (R78). `unset` is the cursor of a ROLL or UNROLL that has not begun. -/
inductive Cursor where
  | slot (next : Nat)
  | census (position : Nat)
  | unset
  | index (current : Option (Slot × Physical))
  | scan (secondPass : Bool) (position : Nat)
deriving DecidableEq, Repr

/-- A sweep record (R77). Class and mode follow from the kind and the cursor; the scan set is absent
until the event that fixes it. -/
structure Sweep where
  kind      : SweepKind
  trunk     : Port
  cursor    : Cursor
  scanSet   : Option (List FibrePort)
  unitsDone : Nat
deriving DecidableEq, Repr

/-! ## Timing (R98) -/

/-- The sync states (section 6.3). -/
inductive SyncState where
  | search | locked | flywheel | adrift | stopped
deriving DecidableEq, Repr

/-- The timing unit (R98). -/
structure Timing where
  sync             : SyncState
  frame            : BitVec 4
  multiframe       : Word
  interval         : Nat
  trim             : Int
  soakMantissa     : Nat
  soakExponent     : Nat
  beaconPeriod     : Nat
  silenceLimit     : Nat
  beaconCountdown  : Nat
  silenceCountdown : Nat
deriving DecidableEq, Repr

/-! ## The peer link (R160, R169) -/

/-- The receiver states (R162). -/
inductive ReceiverState where
  | hunt | kind | length | payload | check
deriving DecidableEq, Repr

/-- The peer phase of a view: NONE, ABSENT, or a phase of R167. -/
inductive PeerPhase where
  | none
  | absent
  | listed (phase : Phase)
deriving DecidableEq, Repr

/-- A peer view entry (R169). -/
structure PeerView where
  circuit      : Word
  phase        : PeerPhase
  commit       : Bool
  alarm        : Bool
  digest       : Option Word
  heardAt      : Option Word
  peerReleased : Bool
deriving DecidableEq, Repr

/-- The peer link (R160). `retaking` is the model's own: the bytes of a discarded frame that are still to
be re-taken (R163), empty between events. The view table is kept by copper port. -/
structure PeerLink where
  receiver      : ReceiverState
  held          : List Byte
  gap           : Nat
  retaking      : List Byte
  transmitter   : Option (List Byte)
  learnedPeer   : Option Byte
  views         : Vector (Option PeerView) 64
  changePending : Bool
  changeDue     : Bool
  alarmSet      : BitVec 64
deriving DecidableEq, Repr

/-! ## The fault collector (R178, R179) -/

/-- The sixteen fault sources, in number order (R178). -/
inductive FaultSource where
  | storeParity | straySource | indexOverflow | syncLoss | syncRealign | peerSilent | peerIdentity
  | peerMismatch | peerWithdraw | fibreAlarm | fibreDark | fallbackBlocked | rollLate | linkFrame
  | channelProtocol | imageRecord
deriving DecidableEq, Repr

/-- The classes of a fault source (R182). -/
inductive FaultClass where
  | record | alert | hold | fallback
deriving DecidableEq, Repr

/-- What the collector holds for one source (R179). -/
structure SourceState where
  sticky    : Bool
  count     : Nat
  lastTrunk : Option Port
  mask      : Bool
  cls       : FaultClass
deriving DecidableEq, Repr

/-- The first-fault record (R181). -/
structure FirstFault where
  source     : FaultSource
  trunk      : Option Port
  multiframe : Word
deriving DecidableEq, Repr

/-- The fault collector (R179). -/
structure FaultCollector where
  sources : Vector SourceState 16
  first   : Option FirstFault
  hold    : Bool
deriving DecidableEq, Repr

/-! ## The control channel (R191) -/

/-- The result codes (R200). -/
inductive Result where
  | done | accepted | clamped | state | locked | conflict | map | limit | held | committed | busy
  | badTarget | badParam | unknown | abandoned | mixed
deriving DecidableEq, Repr

/-- The channel state with what each state holds (R191): the knock count, the partial command, the
pending response. -/
inductive ChannelState where
  | closed (knock : Nat)
  | opened
  | collecting (command : Word) (taken : List Word) (required : Nat)
  | answering (words : List Word) (position : Nat)
deriving DecidableEq, Repr

/-- The control channel (R191). -/
structure Channel where
  state      : ChannelState
  lastResult : Result
deriving DecidableEq, Repr

/-! ## Events that are due -/

/-- An event that the present event of the part has made due and that no step has taken yet. The model's
own state (log 1): the steps of one event of the hardware, a frame pulse with its boundary for one, are
rows of their own in the table. A step of the boundary evaluation carries what the evaluation decided at the
boundary: the record, and for an arming its lead (R125, R139). -/
inductive Due where
  | mfsMiss
  | adriftEntry
  | boundary
  | peerSilent
  | soakExpiry (record : Port)
  | returnToBridged (record : Port)
  | autoStart (record : Port)
  | autoBridge (record : Port)
  | arming (record : Port) (lead : Nat)
  | releaseAtBoundary (record : Port)
  | rollStart (record : Port)
  | gapExpiry
  | beaconCountdownExpiry
  | beaconTransmit
  | frameDiscard
  | beaconFrame (payload : List Byte)
  | alarmFrame (payload : List Byte)
  | frameIgnored
deriving DecidableEq, Repr

/-! ## The state -/

/-- The whole machine. `due`, `draws` and `pending` are the model's own: the events due (log 1), the
number of free values drawn (log 7, log 8) and the steps that wait in the queue. -/
structure State where
  straps     : Straps
  port       : ProcessorPort
  arbiter    : Arbiter
  store      : List (Nat × Word)
  trunks     : Vector TrunkRecord 64
  fibreTable : Vector (Option Port) 64
  armedList  : List Port
  image      : BindingImage
  links      : List Link
  sweeps     : List Sweep
  timing     : Timing
  link       : PeerLink
  faults     : FaultCollector
  channel    : Channel
  due        : List Due
  draws      : Nat
  pending    : List Instr
deriving DecidableEq, Repr

/-- The faults of a step. There is none: the spec gives every step its effect, so no meaning stops, and a
fault source of the TC64 (R178) is state that the fault collector holds. -/
inductive Fault where
deriving DecidableEq, Repr

/-- The refusals of a step. -/
inductive Refusal where
  /-- Raised by an arm of `exec` whose step has no meaning yet (no arm raises it). Safe: the model stops. -/
  | notModelled (mnemonic : String)
deriving DecidableEq, Repr

/-! ## Power-on reset values -/

/-- The default classes of R178. -/
def FaultSource.defaultClass : FaultSource → FaultClass
  | .storeParity | .straySource | .indexOverflow | .peerSilent | .peerIdentity | .peerMismatch
  | .fibreDark | .fallbackBlocked | .imageRecord => .alert
  | .syncLoss => .hold
  | .syncRealign | .rollLate | .linkFrame | .channelProtocol => .record
  | .peerWithdraw | .fibreAlarm => .fallback

/-- A fault source after power-on reset, with its default class (R179). -/
def SourceState.initial (cls : FaultClass) : SourceState where
  sticky    := false
  count     := 0
  lastTrunk := none
  mask      := false
  cls       := cls

/-- The sources in number order, with the classes of R178. -/
def initialSources : Vector SourceState 16 :=
  #v[.initial FaultSource.storeParity.defaultClass,     .initial FaultSource.straySource.defaultClass,
     .initial FaultSource.indexOverflow.defaultClass,   .initial FaultSource.syncLoss.defaultClass,
     .initial FaultSource.syncRealign.defaultClass,     .initial FaultSource.peerSilent.defaultClass,
     .initial FaultSource.peerIdentity.defaultClass,    .initial FaultSource.peerMismatch.defaultClass,
     .initial FaultSource.peerWithdraw.defaultClass,    .initial FaultSource.fibreAlarm.defaultClass,
     .initial FaultSource.fibreDark.defaultClass,       .initial FaultSource.fallbackBlocked.defaultClass,
     .initial FaultSource.rollLate.defaultClass,        .initial FaultSource.linkFrame.defaultClass,
     .initial FaultSource.channelProtocol.defaultClass, .initial FaultSource.imageRecord.defaultClass]

/-- The timing unit after power-on reset (R98). -/
def initialTiming : Timing where
  sync             := .search
  frame            := 0
  multiframe       := 0
  interval         := 0
  trim             := 0
  soakMantissa     := 234
  soakExponent     := 8
  beaconPeriod     := 25
  silenceLimit     := 6
  beaconCountdown  := 25
  silenceCountdown := 0

/-- The peer link after power-on reset (R160). -/
def initialLink : PeerLink where
  receiver      := .hunt
  held          := []
  gap           := 0
  retaking      := []
  transmitter   := none
  learnedPeer   := none
  views         := Vector.replicate 64 none
  changePending := false
  changeDue     := false
  alarmSet      := 0

/-- The fault collector after power-on reset (R179). -/
def initialFaults : FaultCollector where
  sources := initialSources
  first   := none
  hold    := false

/-- The control channel after power-on reset and after PRST (R191). -/
def initialChannel : Channel where
  state      := .closed 0
  lastResult := .done

/-- The arbiter after power-on reset (R44). -/
def initialArbiter : Arbiter where
  inProgress := none
  waiting    := none
  allowance  := 0

/-- The machine right after power-on reset: every item at the value the spec states (R36, R44, R57, R79,
R98, R115, R160, R179, R191), the image LOADING with every slot blank (log 9), and the straps, the store
and the read data at the values of the logs 4, 5 and 6. -/
def State.reset : State where
  straps     := Config.resetStraps
  port       := { cycle := none, readData := Config.resetReadData }
  arbiter    := initialArbiter
  store      := []
  trunks     := Vector.replicate 64 TrunkRecord.freeRecord
  fibreTable := Vector.replicate 64 none
  armedList  := []
  image      := { state := .loading, slots := Vector.replicate 64 .blank }
  links      := []
  sweeps     := []
  timing     := initialTiming
  link       := initialLink
  faults     := initialFaults
  channel    := initialChannel
  due        := []
  draws      := 0
  pending    := []

end Sys2Proof.Machine
end

