-- ==== Sys2Proof/Machine/Operands.lean ====
section
/-! DEFINITION. Operand forms: ports and slots of channel numbers (R1), connection words in listed and
physical form (R3 to R5, section 11.8.1), channel maps and digests (R8 to R10), targets (R20), command
codes (R200), leads (R107), and the bytes of peer link frames (R161, R167, section 11.8.7). -/

namespace Sys2Proof.Machine

/-! ## Ports, slots and lists of them -/

/-- The copper ports in ascending order. -/
def allPorts : List Port := List.finRange 64

/-- The slots of a port in ascending order. -/
def allSlots : List Slot := List.finRange 32

/-- The framing slot (R2). -/
def framingSlot : Slot := 0

/-- The signalling slot (R2). -/
def signallingSlot : Slot := 16

/-- The copper port of a listed channel (R1). -/
def portOf (n : Listed) : Port := ⟨n.toNat / 32, by have := n.isLt; omega⟩

/-- The slot of a listed channel (R1). -/
def slotOf (n : Listed) : Slot := ⟨n.toNat % 32, by omega⟩

/-- The slot of a physical channel (R1). -/
def physicalSlot (x : Physical) : Slot := ⟨x.toNat % 32, by omega⟩

/-- The physical channel of port number `port` at slot `k` (R1). -/
def channelAt (port : Nat) (k : Slot) : Physical := BitVec.ofNat 12 (port * 32 + k)

/-- The physical channel of copper port `p` at slot `k`. -/
def copperChannel (p : Port) (k : Slot) : Physical := channelAt p k

/-- The number 64–127 of a fibre port (R1). -/
def FibrePort.number (F : FibrePort) : Nat := 64 + F.val

/-- The fibre port whose number is `n`, if `n` is within 64–127. -/
def fibrePortOf (n : Nat) : Option FibrePort :=
  if h : 64 ≤ n ∧ n < 128 then some ⟨n - 64, by omega⟩ else none

/-- The physical channel of fibre port `F` at slot `j`. -/
def fibreChannel (F : FibrePort) (j : Slot) : Physical := channelAt (FibrePort.number F) j

/-- A physical channel below 2048 as a copper port (R1). -/
def copperPortOf (x : Physical) : Option Port :=
  if h : x.toNat < 2048 then some ⟨x.toNat / 32, by omega⟩ else none

/-- A physical channel of 2048 or above as a fibre port (R1). -/
def physicalFibrePort (x : Physical) : Option FibrePort := fibrePortOf (x.toNat / 32)

/-- The window: the framing slot of listed port WIN (R2). -/
def windowAddress (win : BitVec 6) : Listed := win ++ 0#5

/-! ## Connection words -/

/-- The mode codes of section 1.2. -/
def Mode.code : Mode → BitVec 2
  | .idle => 0 | .connect => 1 | .tone => 2 | .monitor => 3

/-- The mode of a code (section 1.2). -/
def Mode.ofCode (c : BitVec 2) : Mode :=
  if c = 0 then .idle else if c = 1 then .connect else if c = 2 then .tone else .monitor

/-- A listener's modes (R3). -/
def Mode.listens : Mode → Bool
  | .connect | .monitor => true
  | .idle | .tone => false

/-- The source of a listed word (section 11.8.1). -/
def listedSource (w : Word) : Listed := w.extractLsb' 0 11

/-- The mode of a listed word (section 11.8.1). -/
def listedMode (w : Word) : Mode := Mode.ofCode (w.extractLsb' 11 2)

/-- The listed word of a mode and a source, its spare bits 0 (R4). -/
def listedWord (m : Mode) (s : Listed) : Word := 0#3 ++ m.code ++ s

/-- The source of a physical word; the ignored bit and the parity content take no part (R5). -/
def physicalSource (w : Word) : Physical := w.extractLsb' 0 12

/-- The mode of a physical word (R5). -/
def physicalMode (w : Word) : Mode := Mode.ofCode (w.extractLsb' 12 2)

/-- Whether the count of ones in the 16 bits is odd (R5). -/
def oddOnes (w : Word) : Bool := (List.range 16).foldl (fun odd i => odd ^^ w.getLsbD i) false

/-- The physical word of a mode and a source as the TC64 writes it: ignored bit 0, parity content chosen
so that the 16 bits hold an even number of ones (R5, R48). -/
def physicalWord (m : Mode) (x : Physical) : Word :=
  BitVec.ofBool (oddOnes (0#2 ++ m.code ++ x)) ++ 0#1 ++ m.code ++ x

/-- The idle word in physical form (R3). -/
def idleWord : Word := physicalWord .idle 0

/-! ## Channel maps -/

/-- The fibre form of slot `k` under fibre port `F` and map `m` (R9). -/
def fibreForm (F : FibrePort) (m : ChannelMap) (k : Slot) : Physical := fibreChannel F m[k]

/-- The inverse map (R9). -/
def inverseSlot (m : ChannelMap) (j : Slot) : Option Slot := allSlots.find? (fun k => m[k] = j)

/-- The identity map (R8). -/
def identityMap : ChannelMap :=
  #v[0, 1, 2, 3, 4, 5, 6, 7, 8, 9, 10, 11, 12, 13, 14, 15,
     16, 17, 18, 19, 20, 21, 22, 23, 24, 25, 26, 27, 28, 29, 30, 31]

/-- Whether a map is valid (R8). -/
def validMap (m : ChannelMap) : Bool :=
  m[framingSlot] = framingSlot && m[signallingSlot] = signallingSlot &&
    allSlots.all (fun a => allSlots.all (fun b => a = b || m[a] != m[b]))

/-- The map whose entries are these bytes: the first 32 entries, slot 0 first; none when an entry exceeds
31 or one is missing (R22, R34). -/
def mapOfBytes (entries : List Byte) : Option ChannelMap :=
  (List.range 32).foldl
    (fun acc i => match acc, entries[i]? with
      | some m, some e => if h : e.toNat < 32 then some (m.setIfInBounds i ⟨e.toNat, h⟩) else none
      | _, _ => none)
    (some identityMap)

/-- The map digest (R10). -/
def mapDigest (m : ChannelMap) : Nat :=
  allSlots.foldl (fun sum k => sum + (k.val + 1) * (m[k].val + 1)) 0

/-! ## Targets -/

/-- What a target byte names (R20). -/
inductive Target where
  | copper (p : Port)
  | group (g : Fin 7)
  | allBound
  | noRecord
  | other
deriving DecidableEq, Repr

/-- The target of a command word's low byte (R20). -/
def targetOf (b : Byte) : Target :=
  let n := b.toNat
  if h : n < 64 then .copper ⟨n, h⟩
  else if h : 0x80 ≤ n ∧ n < 0x87 then .group ⟨n - 0x80, by omega⟩
  else if n = 0x87 then .allBound
  else if n = 0xFF then .noRecord
  else .other

/-! ## Commands -/

/-- The commands of R200. -/
inductive Command where
  | status | bind | unbind | groups | lock | unlock | pin | eraseImage | start | bridge | roll | disarm
  | release | fallback | abort | recensus | auto | hold | clearHold | queryTrunk | queryFaults
  | clearFaults | setAction | setTiming | readStore | queryIndex | close
deriving DecidableEq, Repr

/-- The high byte of a word: a command code or a result code (section 11.8.2). -/
def highByte (w : Word) : Byte := w.extractLsb' 8 8

/-- The low byte of a word: a target or a count (section 11.8.2). -/
def lowByte (w : Word) : Byte := w.extractLsb' 0 8

/-- The word of a high and a low byte. -/
def wordOf (high low : Byte) : Word := high ++ low

/-- The command of a code (R200); none when the code is unknown. -/
def commandOfCode (code : Byte) : Option Command :=
  match code.toNat with
  | 0x01 => some .status
  | 0x10 => some .bind
  | 0x11 => some .unbind
  | 0x12 => some .groups
  | 0x13 => some .lock
  | 0x14 => some .unlock
  | 0x15 => some .pin
  | 0x16 => some .eraseImage
  | 0x20 => some .start
  | 0x21 => some .bridge
  | 0x22 => some .roll
  | 0x23 => some .disarm
  | 0x24 => some .release
  | 0x25 => some .fallback
  | 0x26 => some .abort
  | 0x27 => some .recensus
  | 0x28 => some .auto
  | 0x30 => some .hold
  | 0x31 => some .clearHold
  | 0x40 => some .queryTrunk
  | 0x41 => some .queryFaults
  | 0x42 => some .clearFaults
  | 0x43 => some .setAction
  | 0x50 => some .setTiming
  | 0x51 => some .readStore
  | 0x52 => some .queryIndex
  | 0x7F => some .close
  | _ => none

/-- How many parameter words a command requires (R200). -/
def Command.parameterWords : Command → Nat
  | .bind => 17
  | .groups | .roll | .setAction | .readStore | .queryIndex => 1
  | .auto => 2
  | .setTiming => 4
  | .status | .unbind | .lock | .unlock | .pin | .eraseImage | .start | .bridge | .disarm | .release
  | .fallback | .abort | .recensus | .hold | .clearHold | .queryTrunk | .queryFaults | .clearFaults
  | .close => 0

/-- The result codes of R200. -/
def Result.code : Result → BitVec 4
  | .done => 0 | .accepted => 1 | .clamped => 2 | .state => 3 | .locked => 4 | .conflict => 5
  | .map => 6 | .limit => 7 | .held => 8 | .committed => 9 | .busy => 10 | .badTarget => 11
  | .badParam => 12 | .unknown => 13 | .abandoned => 14 | .mixed => 15

/-- A result code as the high byte of a word. -/
def Result.byte (r : Result) : Byte := 0#4 ++ r.code

/-- Whether a result refuses the command: every result but DONE, ACCEPTED, CLAMPED and MIXED (R200). -/
def Result.refuses : Result → Bool
  | .done | .accepted | .clamped | .mixed => false
  | _ => true

/-- A response header (section 11.8.2). -/
def headerWord (r : Result) (count : Nat) : Word := wordOf r.byte (BitVec.ofNat 8 count)

/-- A member word (section 11.8.2). -/
def memberWord (p : Port) (r : Result) : Word := wordOf r.byte (BitVec.ofNat 8 p.val)

/-- The `i`-th parameter word, counted from 0. A command executes with all the words it requires. -/
def parameter (params : List Word) (i : Nat) : Word := params.getD i 0

/-- A lead brought into 1–16384 (R107). -/
def normaliseLead (lead : Nat) : Nat := if lead = 0 then 1 else min lead 16384

/-- The result of a command that records a lead: CLAMPED when normalisation changed it (R107). -/
def leadResult (lead : Nat) (kept : Result) : Result :=
  if normaliseLead lead = lead then kept else .clamped

/-- The 32 map entries of BIND: slots 0 and 16 in place, the 30 given bytes for slots 1–15 and 17–31, two
per word, the earlier slot in the low byte (R22, section 11.8.3). -/
def bindEntries (params : List Word) : List Byte :=
  let given := (params.drop 2).foldr (fun w rest => lowByte w :: highByte w :: rest) []
  0 :: given.take 15 ++ 16 :: (given.drop 15).take 15

/-- The groups of the GROUPS parameter: the nibbles 0–6, each once and ascending, nibbles of Fh left out
(R26); none when a nibble is 7h–Eh. -/
def groupsOfWord (w : Word) : Option (List (Fin 7)) :=
  let nibbles := [w.extractLsb' 0 4, w.extractLsb' 4 4, w.extractLsb' 8 4, w.extractLsb' 12 4]
  if nibbles.any (fun n : BitVec 4 => 7 ≤ n.toNat && n.toNat ≤ 14) then none
  else some ((List.finRange 7).filter (fun g => nibbles.any (fun n => n.toNat = g.val)))

/-! ## Fault sources and classes -/

/-- The place of a source in the collector: its number less 1 (R178). -/
def FaultSource.index : FaultSource → Fin 16
  | .storeParity => 0 | .straySource => 1 | .indexOverflow => 2 | .syncLoss => 3 | .syncRealign => 4
  | .peerSilent => 5 | .peerIdentity => 6 | .peerMismatch => 7 | .peerWithdraw => 8 | .fibreAlarm => 9
  | .fibreDark => 10 | .fallbackBlocked => 11 | .rollLate => 12 | .linkFrame => 13
  | .channelProtocol => 14 | .imageRecord => 15

/-- The number of a source (R178). -/
def FaultSource.number (src : FaultSource) : Nat := src.index.val + 1

/-- All sources in number order. -/
def FaultSource.all : List FaultSource :=
  [.storeParity, .straySource, .indexOverflow, .syncLoss, .syncRealign, .peerSilent, .peerIdentity,
   .peerMismatch, .peerWithdraw, .fibreAlarm, .fibreDark, .fallbackBlocked, .rollLate, .linkFrame,
   .channelProtocol, .imageRecord]

/-- The source of a number 1–16 (R189). -/
def faultSourceOf (n : Nat) : Option FaultSource := FaultSource.all.find? (fun src => src.number = n)

/-- The class codes of SET_ACTION (section 10.6.3). -/
def FaultClass.code : FaultClass → BitVec 2
  | .record => 0 | .alert => 1 | .hold => 2 | .fallback => 3

/-- The class of a code. -/
def FaultClass.ofCode (c : BitVec 2) : FaultClass :=
  if c = 0 then .record else if c = 1 then .alert else if c = 2 then .hold else .fallback

/-! ## Phases -/

/-- The output state of a phase (R6). -/
def Phase.outputState : Phase → OutputState
  | .free | .bound | .census | .tracked | .unbridging => .native
  | .bridging | .bridged | .armed | .rolling | .rolled | .unrolling => .split
  | .releasing | .migrated => .moved

/-- The talker state of a phase (R6). -/
def Phase.talkerState : Phase → TalkerState
  | .rolling | .rolled | .releasing | .migrated => .fibre
  | .free | .bound | .census | .tracked | .bridging | .bridged | .armed | .unrolling | .unbridging => .copper

/-- The index-active phases (R58). -/
def Phase.indexActive : Phase → Bool
  | .census | .tracked | .bridging | .bridged | .armed | .rolling | .rolled | .releasing | .unrolling
  | .unbridging => true
  | .free | .bound | .migrated => false

/-- The phases of the transmit set (R126). -/
def Phase.inTransmitSet : Phase → Bool
  | .bridged | .armed | .rolling | .rolled | .releasing | .migrated | .unrolling => true
  | .free | .bound | .census | .tracked | .bridging | .unbridging => false

/-- Whether a peer phase is in the transmit set; NONE and ABSENT are not (R126). -/
def PeerPhase.inTransmitSet : PeerPhase → Bool
  | .listed ph => ph.inTransmitSet
  | .none | .absent => false

/-- The phase codes of QUERY_TRUNK: 0 FREE, 1–11 as the beacon codes of R167, 12 BOUND (section 11.8.5). -/
def Phase.code : Phase → BitVec 4
  | .free => 0 | .census => 1 | .tracked => 2 | .bridging => 3 | .bridged => 4 | .armed => 5
  | .rolling => 6 | .rolled => 7 | .releasing => 8 | .migrated => 9 | .unrolling => 10
  | .unbridging => 11 | .bound => 12

/-- The phase of a beacon's phase code; none for 0 and 12–255 (R167). -/
def beaconPhase (code : Byte) : Option Phase :=
  match code.toNat with
  | 1 => some .census
  | 2 => some .tracked
  | 3 => some .bridging
  | 4 => some .bridged
  | 5 => some .armed
  | 6 => some .rolling
  | 7 => some .rolled
  | 8 => some .releasing
  | 9 => some .migrated
  | 10 => some .unrolling
  | 11 => some .unbridging
  | _ => none

/-- The peer phase codes of QUERY_TRUNK (section 11.8.5). -/
def PeerPhase.code : PeerPhase → BitVec 4
  | .none => 0 | .absent => 15 | .listed ph => ph.code

/-- The class of a sweep kind (R77): class A for ROLL and UNROLL. -/
def SweepKind.classA : SweepKind → Bool
  | .roll | .unroll => true
  | .prepare | .census | .bridge | .release | .unbridge => false

/-- The sweep kind codes of QUERY_TRUNK (section 11.8.5). -/
def SweepKind.code : SweepKind → BitVec 3
  | .prepare => 1 | .census => 2 | .bridge => 3 | .roll => 4 | .unroll => 5 | .release => 6 | .unbridge => 7

/-! ## Frames of the peer link -/

/-- The opening byte of a frame (R161). -/
def openingByte : Byte := 0xD3

/-- The kind of a BEACON frame (R161). -/
def beaconKind : Byte := 0x21

/-- The kind of an ALARM frame (R161). -/
def alarmKind : Byte := 0x32

/-- The sum of bytes mod 256. -/
def byteSum (bytes : List Byte) : Byte := bytes.foldl (· + ·) 0

/-- Whether kind, length, payload and check sum to a multiple of 256 (R161). -/
def checkGood (bytes : List Byte) : Bool := byteSum bytes = 0

/-- The bytes of the frame of a kind and a payload (R161). -/
def frameBytes (kind : Byte) (payload : List Byte) : List Byte :=
  let counted := kind :: BitVec.ofNat 8 payload.length :: payload
  openingByte :: (counted ++ [0 - byteSum counted])

/-- One record of a beacon (R167). -/
structure BeaconRecord where
  circuit : Word
  phase   : Phase
  commit  : Bool
  alarm   : Bool
  digest  : Word
deriving DecidableEq, Repr

/-- The six bytes of a beacon record (R167, section 11.8.7). -/
def beaconRecordBytes (r : BeaconRecord) : List Byte :=
  [highByte r.circuit, lowByte r.circuit, 0#4 ++ r.phase.code,
   0#6 ++ BitVec.ofBool r.alarm ++ BitVec.ofBool r.commit, highByte r.digest, lowByte r.digest]

/-- The payload of a beacon (R167, R174). -/
def beaconPayload (fromSite toSite : Byte) (records : List BeaconRecord) : List Byte :=
  fromSite :: toSite :: BitVec.ofNat 8 records.length :: records.flatMap beaconRecordBytes

/-- The records of a beacon's payload after its first three bytes: each usable record, and none for a
record whose phase code is 0 or 12–255 (R167). -/
def beaconRecords : List Byte → List (Option BeaconRecord)
  | c1 :: c0 :: ph :: fl :: d1 :: d0 :: rest =>
    (beaconPhase ph).map (fun phase =>
      { circuit := wordOf c1 c0, phase := phase, commit := fl.getLsbD 0, alarm := fl.getLsbD 1,
        digest := wordOf d1 d0 }) :: beaconRecords rest
  | _ => []

/-- A beacon's payload read as from-site, to-site and records; none when it does not have the form of
R167: length 3 + 6c with a count c of at most 8. -/
def parseBeacon : List Byte → Option (Byte × Byte × List (Option BeaconRecord))
  | fromSite :: toSite :: count :: rest =>
    if count.toNat ≤ 8 && rest.length = 6 * count.toNat then
      some (fromSite, toSite, beaconRecords rest)
    else none
  | _ => none

/-- The set of fibre ports that an ALARM payload names: bit b of byte i for fibre port 64 + 8i + b (R176,
section 11.8.7); none when the payload is not 8 bytes. -/
def parseAlarm : List Byte → Option (BitVec 64)
  | [b0, b1, b2, b3, b4, b5, b6, b7] => some (b7 ++ b6 ++ b5 ++ b4 ++ b3 ++ b2 ++ b1 ++ b0)
  | _ => none

end Sys2Proof.Machine
end

