-- ==== Sys2Proof/Machine/Flags.lean ====
section
/-! DEFINITION. Flags computed from the state: parity (R5, R48), the ALERT line (R183), the gates' freshness
(R111), the link's enable (R166), READY (R37), image busy (R30), and the status word (section 11.8.2). -/

namespace Sys2Proof.Machine

/-- Whether a word read from the store is parity-failed: its 16 bits, the ignored bit included, hold an odd
number of ones (R5). -/
def parityFailed (w : Word) : Bool := oddOnes w

/-- The ALERT output: asserted while a source has its sticky flag set, its mask clear and a class of ALERT,
HOLD or FALLBACK (R183). -/
def State.alertLine (s : State) : Bool :=
  FaultSource.all.any (fun src =>
    let f := s.faults.sources[src.index]
    f.sticky && !f.mask && f.cls != .record)

/-- The hold flag (R184). -/
def State.inHold (s : State) : Bool := s.faults.hold

/-- Whether SITE disables the link (R166). -/
def State.linkDisabled (s : State) : Bool := s.straps.site = 0 || s.straps.site = 255

/-- Whether the peer is heard, so that every peer view is fresh (R111, R169). -/
def State.peerHeard (s : State) : Bool := 0 < s.timing.silenceCountdown

/-- READY is given while the port keeps no cycle (R37). -/
def State.readyGiven (s : State) : Bool := s.port.cycle.isNone

/-- The image is busy in every state but READY (R30). -/
def State.imageBusy (s : State) : Bool := s.image.state != .ready

/-- A flag at a bit position of a word. -/
def flagBit (b : Bool) (position : Nat) : Word := if b then BitVec.ofNat 16 (2 ^ position) else 0

/-- The status word: 5Ah, ALERT asserted, hold flag, image busy and the last result (section 11.8.2). -/
def State.statusWord (s : State) : Word :=
  wordOf 0x5A
    (0#1 ++ BitVec.ofBool s.alertLine ++ BitVec.ofBool s.inHold ++ BitVec.ofBool s.imageBusy
      ++ s.channel.lastResult.code)

end Sys2Proof.Machine
end

