-- ==== Sys2Proof/Machine/Ops.lean ====
section
/-! DEFINITION. The named operations over the store, the trunk records, the fault collector's items and the
announced set, which every meaning goes through. -/

namespace Sys2Proof.Machine

/-! ## The connection store

The store is a list of (address, word) pairs, addresses strictly rising and no word equal to
`Config.unlistedWord`, which every unlisted address reads as. -/

/-- The word that a store list holds at an address. -/
def lookupWord : List (Nat × Word) → Nat → Word
  | [], _ => Config.unlistedWord
  | (a, w) :: rest, x => if a = x then w else lookupWord rest x

/-- A store list with the word at an address replaced, in canonical form. -/
def insertWord : List (Nat × Word) → Nat → Word → List (Nat × Word)
  | [], x, v => if v = Config.unlistedWord then [] else [(x, v)]
  | (a, w) :: rest, x, v =>
    if x < a then (if v = Config.unlistedWord then (a, w) :: rest else (x, v) :: (a, w) :: rest)
    else if x = a then (if v = Config.unlistedWord then rest else (x, v) :: rest)
    else (a, w) :: insertWord rest x v

/-- The canonical form of a store list whose addresses lie within `low` to 4095. -/
def canonicalFrom : Nat → List (Nat × Word) → Bool
  | _, [] => true
  | low, (a, w) :: rest => low ≤ a && a < 4096 && w != Config.unlistedWord && canonicalFrom (a + 1) rest

/-- The canonical form of the connection store. -/
def Memory.wf (m : List (Nat × Word)) : Bool := canonicalFrom 0 m

/-- The word of the connection store at a physical address (R1). -/
def State.readWord (s : State) (x : Physical) : Word := lookupWord s.store x.toNat

/-- The state with a word of the connection store written (R48). -/
def State.writeWord (s : State) (x : Physical) (w : Word) : State :=
  { s with store := insertWord s.store x.toNat w }

/-! ## Trunk records and the fibre binding table -/

/-- Record `p` of the trunk table (R18). -/
def State.trunk (s : State) (p : Port) : TrunkRecord := s.trunks[p]

/-- The state with record `p` replaced. -/
def State.setTrunk (s : State) (p : Port) (r : TrunkRecord) : State :=
  { s with trunks := s.trunks.set p.val r p.isLt }

/-- The copper port bound to a fibre port (R19). -/
def State.boundTo (s : State) (F : FibrePort) : Option Port := s.fibreTable[F]

/-- The state with an entry of the fibre binding table replaced. -/
def State.setBoundTo (s : State) (F : FibrePort) (p : Option Port) : State :=
  { s with fibreTable := s.fibreTable.set F.val p F.isLt }

/-- The phase of record `p`. -/
def State.phase (s : State) (p : Port) : Phase := (s.trunk p).phase

/-- Whether record `p` is bound (R18). -/
def State.isBound (s : State) (p : Port) : Bool := (s.trunk p).binding.isSome

/-- The fibre ports that the fibre binding table names as bound, ascending (R90). -/
def State.boundFibrePorts (s : State) : List FibrePort :=
  (List.finRange 64).filter (fun F => (s.boundTo F).isSome)

/-- The members of a target, ascending (R20). -/
def State.members (s : State) : Target → List Port
  | .copper p => [p]
  | .group g => allPorts.filter (fun p => s.isBound p && (s.trunk p).groups.contains g)
  | .allBound => allPorts.filter (fun p => s.isBound p)
  | .noRecord | .other => []

/-! ## The announced set -/

/-- Whether record `p` is announced: its phase is index-active, or it is MIGRATED and lingering (R116). -/
def State.announced (s : State) (p : Port) : Bool :=
  (s.phase p).indexActive || (s.phase p = .migrated && (s.trunk p).lingering)

/-- The announced records, ascending. -/
def State.announcedPorts (s : State) : List Port := allPorts.filter (fun p => s.announced p)

/-- The announced count (R116). -/
def State.announcedCount (s : State) : Nat := s.announcedPorts.length

/-- The peer view entry of record `p` (R169). -/
def State.view (s : State) (p : Port) : Option PeerView := s.link.views[p]

/-- The state with the peer view entry of record `p` replaced. -/
def State.setView (s : State) (p : Port) (v : Option PeerView) : State :=
  { s with link := { s.link with views := s.link.views.set p.val v p.isLt } }

/-- A change of an announced record is reported to the peer link: change pending becomes yes (R173). -/
def State.reportChange (s : State) : State := { s with link := { s.link with changePending := true } }

/-- A peer view entry at its creation (R169). -/
def newView (circuit : Word) : PeerView where
  circuit      := circuit
  phase        := .none
  commit       := false
  alarm        := false
  digest       := none
  heardAt      := none
  peerReleased := false

/-- Record `p` joins the announced set: its view entry is created with peer phase NONE (R116). -/
def State.joinAnnounced (s : State) (p : Port) : State :=
  match (s.trunk p).binding with
  | some b => (s.setView p (some (newView b.circuit))).reportChange
  | none => s.reportChange

/-- Record `p` leaves the announced set at its entry to BOUND: its view entry is removed (R116, R173). -/
def State.leaveAnnounced (s : State) (p : Port) : State := (s.setView p none).reportChange

/-! ## The fault collector's items -/

/-- What the collector holds for a source (R179). -/
def State.source (s : State) (src : FaultSource) : SourceState := s.faults.sources[src.index]

/-- The state with what the collector holds for a source replaced. -/
def State.setSource (s : State) (src : FaultSource) (f : SourceState) : State :=
  { s with faults := { s.faults with sources := s.faults.sources.set src.index.val f src.index.isLt } }

/-- The source after an occurrence that carries this trunk: sticky flag, count up to 255, last trunk (R180
(1) to (3)). -/
def SourceState.occurred (f : SourceState) (trunk : Option Port) : SourceState :=
  { f with sticky := true, count := if f.count < 255 then f.count + 1 else f.count, lastTrunk := trunk }

/-- The first-fault record is captured when it is absent (R181). -/
def State.captureFirst (s : State) (src : FaultSource) (trunk : Option Port) : State :=
  match s.faults.first with
  | some _ => s
  | none =>
    { s with faults :=
      { s.faults with first := some { source := src, trunk := trunk, multiframe := s.timing.multiframe } } }

/-- The state with the hold flag set or clear (R184). -/
def State.setHold (s : State) (h : Bool) : State := { s with faults := { s.faults with hold := h } }

/-- An occurrence taken by the collector up to the dispatch of fallback: R180 (1) to (5), with the hold flag
of class HOLD (R182). The phase changes of class FALLBACK follow in `dispatchFallback`, at once or at the
end of the store unit that the occurrence arose in (R178). -/
def State.recordOccurrence (s : State) (src : FaultSource) (trunk : Option Port) : State :=
  let f := s.source src
  let s1 := s.setSource src (f.occurred trunk)
  if f.mask then s1
  else
    let s2 := s1.captureFirst src trunk
    if f.cls = .hold then s2.setHold true else s2

/-- Whether an occurrence of a source dispatches fallback: its mask is clear and its class FALLBACK (R185). -/
def State.dispatches (s : State) (src : FaultSource) : Bool :=
  !(s.source src).mask && (s.source src).cls = .fallback

/-! ## Events that are due, and free values -/

/-- The state with an event made due, after those already due. -/
def State.addDue (s : State) (d : Due) : State := { s with due := s.due ++ [d] }

/-- The state with an event that is due taken. -/
def State.takeDue (s : State) (d : Due) : State := { s with due := s.due.erase d }

/-- The state after a free value has been drawn. -/
def State.drawn (s : State) : State := { s with draws := s.draws + 1 }

end Sys2Proof.Machine
end

