-- ==== Sys2Proof/Machine/Translation.lean ====
section
/-! DEFINITION. The translation unit (chapter 1): physical source and landing set of a processor write, the
address that a processor read takes, and the listed word that it returns. It holds no state (R17). -/

namespace Sys2Proof.Machine

/-- The fibre form of slot `k` of copper port `p` (R9); none when the record is not bound. -/
def State.fibreFormOf (s : State) (p : Port) (k : Slot) : Option Physical :=
  (s.trunk p).binding.map (fun b => fibreForm b.fibre b.map k)

/-- The copper form of a listed channel (R9). -/
def copperForm (n : Listed) : Physical := n.setWidth 12

/-- The physical source of a processor write of a word with this mode and listed source (R11). -/
def State.writeSource (s : State) (m : Mode) (n : Listed) : Physical :=
  if m.listens then
    match (s.phase (portOf n)).talkerState with
    | .fibre => (s.fibreFormOf (portOf n) (slotOf n)).getD (copperForm n)
    | .copper => copperForm n
  else copperForm n

/-- The physical word of a processor write; the spare bits of the listed word play no part (R4, R11). -/
def State.translateWrite (s : State) (w : Word) : Word :=
  physicalWord (listedMode w) (s.writeSource (listedMode w) (listedSource w))

/-- The landing set of a processor write, in the order in which the words are written (R12). -/
def State.landingSet (s : State) (a : Listed) : List Physical :=
  match (s.phase (portOf a)).outputState, s.fibreFormOf (portOf a) (slotOf a) with
  | .native, _ => [copperForm a]
  | .split, some x => [copperForm a, x]
  | .moved, some x => [x]
  | .split, none => [copperForm a]
  | .moved, none => [copperForm a]

/-- The physical address that a processor read takes (R13). -/
def State.readAddress (s : State) (a : Listed) : Physical :=
  match (s.phase (portOf a)).outputState with
  | .native | .split => copperForm a
  | .moved => (s.fibreFormOf (portOf a) (slotOf a)).getD (copperForm a)

/-- The listed channel of copper port `q` at slot `k` (R1). -/
def listedChannel (q : Port) (k : Slot) : Listed := BitVec.ofNat 11 (q.val * 32 + k.val)

/-- The copper channel whose fibre form is `x`, by the fibre binding table and the inverse map (R14, R62);
none when the fibre port is unbound. -/
def State.fibreTalker (s : State) (x : Physical) : Option (Port × Slot) :=
  match (physicalFibrePort x).bind s.boundTo with
  | none => none
  | some q => (s.trunk q).binding.bind (fun b => (inverseSlot b.map (physicalSlot x)).map (fun k => (q, k)))

/-- The listed source returned for a word read, and whether the word is a listener on an unbound fibre port,
for which 2047 is returned and STRAY_SOURCE raised (R14, R15). -/
def State.readSource (s : State) (w : Word) : Listed × Bool :=
  let x := physicalSource w
  if (physicalMode w).listens && 2048 ≤ x.toNat then
    match s.fibreTalker x with
    | some (q, k) => (listedChannel q k, false)
    | none => (2047, true)
  else (x.setWidth 11, false)

/-- The listed word returned for a word read (R4, R14, R15). -/
def State.translateRead (s : State) (w : Word) : Word := listedWord (physicalMode w) (s.readSource w).1

/-- Whether a processor read of this word raises STRAY_SOURCE (R14). -/
def State.readIsStray (s : State) (w : Word) : Bool := (s.readSource w).2

end Sys2Proof.Machine
end

