-- ==== Sys2Proof/Machine/Index.lean ====
section
/-! DEFINITION. The listener index (chapter 4). The links in use are held in one list, oldest first: a
talker list is its part for that talker, the listener table its entry for an address, the free count what
is left of 1024, so the three parts that R57 names are always in step. -/

namespace Sys2Proof.Machine

/-- The size of the link pool (R57). -/
def linkPoolSize : Nat := 1024

/-- The list of a talker, oldest first (R59). -/
def State.talkerList (s : State) (t : Talker) : List Link := s.links.filter (fun l => l.talker = t)

/-- The listener table: the link whose listener is `x` (R60). -/
def State.linkAt (s : State) (x : Physical) : Option Link := s.links.find? (fun l => l.listener = x)

/-- The free count (R57, R58). -/
def State.freeCount (s : State) : Nat := linkPoolSize - s.links.length

/-- The listener count of record `p` (R72). -/
def State.listenerCount (s : State) (p : Port) : Nat := (s.links.filter (fun l => l.talker.port = p)).length

/-- Whether the talkers of record `p` can receive links: its phase is index-active and it is not index-lost
(R61, R62). -/
def State.followed (s : State) (p : Port) : Bool := (s.phase p).indexActive && !(s.trunk p).indexLost

/-- The channel that a physical source names, in copper or in fibre form (R62). -/
def State.channelNamed (s : State) (x : Physical) : Option (Port × Slot) :=
  match copperPortOf x with
  | some p => some (p, physicalSlot x)
  | none => s.fibreTalker x

/-- The indexed talker that a word names (R62). -/
def State.namedTalker (s : State) (w : Word) : Option Talker :=
  if (physicalMode w).listens then
    match s.channelNamed (physicalSource w) with
    | some (p, k) => if s.followed p then some { port := p, slot := k } else none
    | none => none
  else none

/-! ## The order in which a ROLL or UNROLL walks the lists (R92, R73) -/

/-- The list order of R92: slot 16 first, then slots 0 to 15, then slots 17 to 31. -/
def rollOrder : List Slot := signallingSlot :: allSlots.filter (fun k => k != signallingSlot)

/-- The slots after `k` in the list order. -/
def rollOrderAfter (k : Slot) : List Slot := (rollOrder.dropWhile (fun j => j != k)).drop 1

/-- The head of the first list with a link among the lists of these slots of trunk `p`, in order. -/
def State.firstLink (s : State) (p : Port) : List Slot → Option (Slot × Physical)
  | [] => none
  | k :: rest =>
    match s.talkerList { port := p, slot := k } with
    | l :: _ => some (k, l.listener)
    | [] => s.firstLink p rest

/-- The successor in its list of the link whose listener is `x` (R73). -/
def successorIn : List Link → Physical → Option Link
  | [], _ => none
  | l :: rest, x => if l.listener = x then rest.head? else successorIn rest x

/-- Where the cursor of an INDEX-mode sweep of trunk `p` goes from the link at `x` in the list of slot `k`:
its successor, or the head of the next non-empty list in order (R92, R93). -/
def State.nextLink (s : State) (p : Port) (k : Slot) (x : Physical) : Option (Slot × Physical) :=
  match successorIn (s.talkerList { port := p, slot := k }) x with
  | some l => some (k, l.listener)
  | none => s.firstLink p (rollOrderAfter k)

/-! ## Changes of the index -/

/-- The cursor of a sweep after the link at `x` of talker `t` is removed: a cursor that stands at it takes
the successor that the index reports (R93). -/
def State.cursorAfterRemoval (s : State) (t : Talker) (x : Physical) (sw : Sweep) : Sweep :=
  if sw.trunk = t.port then
    match sw.cursor with
    | .index (some (k, y)) =>
      if k = t.slot && y = x then { sw with cursor := .index (s.nextLink t.port k x) } else sw
    | _ => sw
  else sw

/-- A link removed from its list (R64 (1)), with the report to the sweep engine (R73 (2)). -/
def State.removeLink (s : State) (l : Link) : State :=
  { s with links := s.links.filter (fun m => m.listener != l.listener),
           sweeps := s.sweeps.map (s.cursorAfterRemoval l.talker l.listener) }

/-- The index-lost flag of record `p` set or clear. -/
def State.setIndexLost (s : State) (p : Port) (lost : Bool) : State :=
  s.setTrunk p { s.trunk p with indexLost := lost }

/-- Every link of trunk `p` freed. -/
def State.freeLinks (s : State) (p : Port) : State :=
  { s with links := s.links.filter (fun l => l.talker.port != p) }

/-- The links of trunk `p` freed and its index-lost flag cleared: RECENSUS (R70), and the entry to BOUND or
MIGRATED (R71). -/
def State.clearIndex (s : State) (p : Port) : State := (s.freeLinks p).setIndexLost p false

/-- An occurrence of a fault that arose inside a store unit: its source and its trunk (R178). -/
abbrev Occurrence := FaultSource × Option Port

/-- Overflow for trunk `p` (R67). -/
def State.overflow (s : State) (p : Port) : State × List Occurrence :=
  (((s.setIndexLost p true).freeLinks p).recordOccurrence .indexOverflow (some p),
    [(.indexOverflow, some p)])

/-- A link for talker `t` and listener `x` added at the tail of its list, or overflow when no link is free
(R64 (2), R67). -/
def State.addLink (s : State) (t : Talker) (x : Physical) : State × List Occurrence :=
  if s.links.length < linkPoolSize then
    ({ s with links := s.links ++ [{ talker := t, listener := x }] }, [])
  else s.overflow t.port

/-- The index observes the report of a store write (R63, R64). -/
def State.observe (s : State) (x : Physical) (w : Word) : State × List Occurrence :=
  match s.linkAt x, s.namedTalker w with
  | none, none => (s, [])
  | none, some t => s.addLink t x
  | some l, none => (s.removeLink l, [])
  | some l, some t => if l.talker = t then (s, []) else (s.removeLink l).addLink t x

/-- What the index does with a word that a census of trunk `p` reads at `x` (R66). -/
def State.censusRead (s : State) (p : Port) (x : Physical) (w : Word) : State × List Occurrence :=
  if parityFailed w then (s, [])
  else
    match s.namedTalker w, s.linkAt x with
    | some t, none => if t.port = p then s.addLink t x else (s, [])
    | _, _ => (s, [])

end Sys2Proof.Machine
end

