-- ==== Sys2Proof/Machine/Sweeps.lean ====
section
/-! DEFINITION. The sweep engine (chapter 5): the queue in order, the executing sweep, beginning, switching
to SCAN mode, cursors, the offer, cancellation and replacement. -/

namespace Sys2Proof.Machine

/-- A new sweep record, its cursor at the first position of its kind (R77, R78). -/
def newSweep (kind : SweepKind) (p : Port) : Sweep where
  kind      := kind
  trunk     := p
  cursor    :=
    match kind with
    | .prepare | .bridge | .release | .unbridge => .slot 0
    | .census => .census 0
    | .roll | .unroll => .unset
  scanSet   := none
  unitsDone := 0

/-- A sweep queued: class A at the end of class A, class B at the end of class B (R79, R81). -/
def State.queueSweep (s : State) (kind : SweepKind) (p : Port) : State :=
  let a := s.sweeps.filter (fun sw => sw.kind.classA)
  let b := s.sweeps.filter (fun sw => !sw.kind.classA)
  { s with sweeps :=
      if kind.classA then a ++ newSweep kind p :: b else a ++ (b ++ [newSweep kind p]) }

/-- A trunk's sweep record removed from the queue: completion (R86) and cancellation (R83). -/
def State.removeSweep (s : State) (p : Port) : State :=
  { s with sweeps := s.sweeps.filter (fun sw => sw.trunk != p) }

/-- A trunk's ROLL replaced in its place by an UNROLL at its start (R84). -/
def State.replaceRoll (s : State) (p : Port) : State :=
  { s with sweeps :=
      s.sweeps.map (fun sw => if sw.trunk = p && sw.kind = .roll then newSweep .unroll p else sw) }

/-- The sweep record of a trunk (R79: at most one). -/
def State.sweepOf (s : State) (p : Port) : Option Sweep := s.sweeps.find? (fun sw => sw.trunk = p)

/-- Whether a trunk has a sweep. -/
def State.hasSweep (s : State) (p : Port) : Bool := (s.sweepOf p).isSome

/-- Whether a class A sweep is executing or queued (R131). -/
def State.classAQueued (s : State) : Bool := s.sweeps.any (fun sw => sw.kind.classA)

/-- Whether a sweep is eligible: class A always, class B outside hold (R79). -/
def State.eligible (s : State) (sw : Sweep) : Bool := sw.kind.classA || !s.inHold

/-- The executing sweep: the first in queue order that is eligible (R79). -/
def State.executing (s : State) : Option Sweep := s.sweeps.find? s.eligible

/-- The number of words of a census set or scan set over these fibre ports (R90, R94). -/
def scanSize (ports : List FibrePort) : Nat := 2048 + 32 * ports.length

/-- The word at a position of a census set or scan set: listed 0–2047, then the 32 words of each fibre port
(R90, R94). -/
def scanAddress (ports : List FibrePort) (position : Nat) : Physical :=
  if position < 2048 then BitVec.ofNat 12 position
  else
    match ports[(position - 2048) / 32]? with
    | some F => BitVec.ofNat 12 (FibrePort.number F * 32 + position % 32)
    | none => 0

/-- The scan set of a sweep; empty until it is taken. -/
def Sweep.ports (sw : Sweep) : List FibrePort := sw.scanSet.getD []

/-- Whether a sweep has no unit remaining (R78, R86). -/
def Sweep.finished (sw : Sweep) : Bool :=
  match sw.cursor with
  | .slot next => 32 ≤ next
  | .census position => sw.scanSet.isSome && scanSize sw.ports ≤ position
  | .unset => false
  | .index current => current.isNone
  | .scan secondPass position => secondPass && scanSize sw.ports ≤ position

/-- A sweep that enters SCAN mode: the scan set over the fibre ports bound at that event, pass 1 from the
first word (R94). -/
def State.enterScan (s : State) (sw : Sweep) : Sweep :=
  { sw with cursor := .scan false 0, scanSet := some s.boundFibrePorts }

/-- The executing sweep as it stands at a unit boundary: it begins if it has not begun, which fixes its mode
and its census or scan set (R77, R90, R92, R94), and an INDEX-mode sweep whose trunk has become index-lost
switches to SCAN (R69, R94). -/
def State.begun (s : State) (sw : Sweep) : Sweep :=
  match sw.kind, sw.cursor with
  | .census, .census _ =>
    match sw.scanSet with
    | none => { sw with scanSet := some s.boundFibrePorts }
    | some _ => sw
  | .roll, .unset | .unroll, .unset =>
    if (s.trunk sw.trunk).indexLost then s.enterScan sw
    else { sw with cursor := .index (s.firstLink sw.trunk rollOrder) }
  | .roll, .index _ | .unroll, .index _ => if (s.trunk sw.trunk).indexLost then s.enterScan sw else sw
  | _, _ => sw

/-- A trunk's sweep record replaced in its place. -/
def State.setSweep (s : State) (sw : Sweep) : State :=
  { s with sweeps := s.sweeps.map (fun old => if old.trunk = sw.trunk then sw else old) }

/-- The engine at a unit boundary: the executing sweep begins or switches, in its place (R79). -/
def State.engine (s : State) : State :=
  match s.executing with
  | some sw => { s with sweeps := s.sweeps.map (fun old => if old = sw then s.begun sw else old) }
  | none => s

/-- The sweep that is complete: the executing sweep when it has no unit remaining (R86). -/
def State.completed (s : State) : Option Sweep :=
  match s.executing with
  | some sw => if sw.finished then some sw else none
  | none => none

/-- The sweep whose unit is offered to the arbiter: the executing sweep with a unit remaining (R80, R47). -/
def State.sweepOffer (s : State) : Option Sweep :=
  match s.executing with
  | some sw => if sw.finished then none else some sw
  | none => none

/-- A sweep with its cursor moved to the next position (R78, R85 (3)). -/
def State.advanced (s : State) (sw : Sweep) : Sweep :=
  match sw.cursor with
  | .slot next => { sw with cursor := .slot (next + 1) }
  | .census position => { sw with cursor := .census (position + 1) }
  | .unset => sw
  | .index (some (k, x)) => { sw with cursor := .index (s.nextLink sw.trunk k x) }
  | .index none => sw
  | .scan false position =>
    { sw with cursor :=
        if position + 1 < scanSize sw.ports then .scan false (position + 1) else .scan true 0 }
  | .scan true position => { sw with cursor := .scan true (position + 1) }

/-- A sweep with one more unit done, up to 65535 (R77, R85 (1)). -/
def Sweep.counted (sw : Sweep) : Sweep :=
  { sw with unitsDone := if sw.unitsDone < 65535 then sw.unitsDone + 1 else sw.unitsDone }

end Sys2Proof.Machine
end

