-- ==== Sys2Proof/Machine/Fallback.lean ====
section
/-! DEFINITION. Taking an uncommitted record back to copper (R145, R146, R151), fallback applied by a fault
(R154), its dispatch (R185), and the phase changes shared by commands, boundaries and completions. -/

namespace Sys2Proof.Machine

/-- A port leaves the armed list, the order of the rest kept (R115). -/
def State.leaveArmedList (s : State) (p : Port) : State := { s with armedList := s.armedList.erase p }

/-- A record's items replaced at a change that is reported to the peer link (R116). -/
def State.changeTrunk (s : State) (p : Port) (r : TrunkRecord) : State := (s.setTrunk p r).reportChange

/-- An ARMED record returns to BRIDGED: its epoch is absent and its port leaves the armed list; its roll
request is kept (R130). -/
def State.returnFromArmed (s : State) (p : Port) : State :=
  (s.changeTrunk p { s.trunk p with phase := .bridged, epoch := none }).leaveArmedList p

/-- DISARM of an ARMED record: as the return, with the roll request cleared (R143). -/
def State.disarmRecord (s : State) (p : Port) : State :=
  (s.changeTrunk p { s.trunk p with phase := .bridged, epoch := none, rollRequest := none }).leaveArmedList p

/-- Fallback of an ARMED record: as DISARM, with auto cleared (R145). -/
def State.fallFromArmed (s : State) (p : Port) : State :=
  (s.changeTrunk p
    { s.trunk p with phase := .bridged, epoch := none, rollRequest := none, autoLead := none }).leaveArmedList p

/-- A ROLLING or uncommitted ROLLED record enters UNROLLING with this undo target and this auto setting: the
release request and the soak remainder become absent; from ROLLING its ROLL is replaced by an UNROLL, from
ROLLED an UNROLL is queued (R146, R151). -/
def State.enterUnrolling (s : State) (p : Port) (undo : UndoTarget) (auto : Option Nat) : State :=
  let s1 := s.changeTrunk p
    { s.trunk p with
      phase := .unrolling, undo := some undo, autoLead := auto, releaseRequest := false, soak := none }
  if s.phase p = .rolling then s1.replaceRoll p else s1.queueSweep .unroll p

/-- Fallback applied to record `p` by a fault (R154). FALLBACK_BLOCKED is an occurrence of its own, whose
class dispatches no fallback (R185). -/
def State.applyFallback (s : State) (p : Port) : State :=
  match s.phase p, (s.trunk p).commit with
  | .armed, _ => s.fallFromArmed p
  | .rolling, _ => s.enterUnrolling p .bridged none
  | .rolled, false => s.enterUnrolling p .bridged none
  | .rolled, true | .releasing, _ | .migrated, _ => s.recordOccurrence .fallbackBlocked (some p)
  | _, _ => s

/-- Whether a device-wide dispatch reaches record `p` (R154, R185). -/
def State.uncommittedInRoll (s : State) (p : Port) : Bool :=
  match s.phase p with
  | .armed | .rolling => true
  | .rolled => !(s.trunk p).commit
  | _ => false

/-- Fallback dispatched for an occurrence: to its trunk alone, or to every record in ARMED, ROLLING or
uncommitted ROLLED at the event, in ascending port order (R185). -/
def State.dispatchFallback (s : State) : Option Port → State
  | some p => s.applyFallback p
  | none => (allPorts.filter s.uncommittedInRoll).foldl State.applyFallback s

/-- The phase changes of an occurrence that the collector has recorded: its dispatch when its class is
FALLBACK and its mask clear (R182). -/
def State.dispatchFor (s : State) (o : Occurrence) : State :=
  if s.dispatches o.1 then s.dispatchFallback o.2 else s

/-- The phase changes of the occurrences that arose inside a unit, taken at its end (R178). -/
def State.dispatchAll (s : State) (os : List Occurrence) : State := os.foldl State.dispatchFor s

end Sys2Proof.Machine
end

