-- ==== Sys2Proof/Machine/Units.lean ====
section
/-! DEFINITION. Store units (R42, R43): what each unit reads and writes, its reports to the listener index
(R50), its end (R85), the arbiter's decision (R45), and the unit that a power-on reset cuts short (R55). -/

namespace Sys2Proof.Machine

/-! ## Writes and reports -/

/-- A store write and its report to the listener index (R48, R50), with the occurrences that arise. -/
def State.writeReported (s : State) (x : Physical) (w : Word) : State × List Occurrence :=
  (s.writeWord x w).observe x w

/-- The store writes of a unit, each reported before the next is made (R50, R65). -/
def State.writesReported (s : State) : List (Physical × Word) → State × List Occurrence
  | [] => (s, [])
  | (x, w) :: rest =>
    let r := s.writeReported x w
    let r2 := r.1.writesReported rest
    (r2.1, r.2 ++ r2.2)

/-- An occurrence that arises inside a unit: taken by the collector at once, its dispatch left for the end
of the unit (R178). -/
def raiseInUnit (r : State × List Occurrence) (src : FaultSource) (trunk : Option Port) :
    State × List Occurrence :=
  (r.1.recordOccurrence src trunk, r.2 ++ [(src, trunk)])

/-! ## The word that each sweep unit reads and the write it makes -/

/-- The slots that a ROLL or UNROLL unit covers: in INDEX mode the slot of its list, in pass 1 slot 16
alone, in pass 2 every other slot (R92, R94). -/
def Cursor.covers (c : Cursor) (k : Slot) : Bool :=
  match c with
  | .index (some (j, _)) => k = j
  | .scan false _ => k = signallingSlot
  | .scan true _ => k != signallingSlot
  | _ => false

/-- The address that the unit at a sweep's cursor reads, for the kinds that read (R88, R90 to R94). -/
def Sweep.readsAt (sw : Sweep) : Option Physical :=
  match sw.kind, sw.cursor with
  | .census, .census position => some (scanAddress sw.ports position)
  | .bridge, .slot next => some (channelAt sw.trunk.val (Fin.ofNat 32 next))
  | .roll, .index (some (_, x)) | .unroll, .index (some (_, x)) => some x
  | .roll, .scan _ position | .unroll, .scan _ position => some (scanAddress sw.ports position)
  | _, _ => none

/-- The word that a ROLL unit of trunk `p` writes over the word `w`, if its test passes: `w` is parity-good,
a listener, and holds the copper form of a covered slot of `p` (R91). -/
def rollRewrite (b : Binding) (p : Port) (covers : Slot → Bool) (w : Word) : Option Word :=
  if parityFailed w || !(physicalMode w).listens then none
  else if copperPortOf (physicalSource w) = some p && covers (physicalSlot (physicalSource w)) then
    some (physicalWord (physicalMode w) (fibreForm b.fibre b.map (physicalSlot (physicalSource w))))
  else none

/-- The word that an UNROLL unit of trunk `p` writes over the word `w`, if its test passes: `w` is
parity-good, a listener, and holds the fibre form of a covered slot of `p` (R91). -/
def unrollRewrite (b : Binding) (p : Port) (covers : Slot → Bool) (w : Word) : Option Word :=
  if parityFailed w || !(physicalMode w).listens then none
  else if physicalFibrePort (physicalSource w) = some b.fibre then
    match inverseSlot b.map (physicalSlot (physicalSource w)) with
    | some k => if covers k then some (physicalWord (physicalMode w) (copperChannel p k)) else none
    | none => none
  else none

/-- The word that a BRIDGE unit writes for the copper word `w`: the same mode and source with fresh parity,
the source of an IDLE or TONE word mod 2048, or the idle word for a parity-failed word (R88). -/
def bridgeCopy (w : Word) : Word :=
  if parityFailed w then idleWord
  else if (physicalMode w).listens then physicalWord (physicalMode w) (physicalSource w)
  else physicalWord (physicalMode w) ((physicalSource w).setWidth 11 |>.setWidth 12)

/-- The write that the unit at a sweep's cursor makes, given the binding of its trunk and the word that it
read (R87 to R91). A CENSUS unit writes nothing. -/
def Sweep.unitWrite (sw : Sweep) (b : Binding) (read : Word) : Option (Physical × Word) :=
  match sw.kind, sw.cursor with
  | .prepare, .slot next | .unbridge, .slot next =>
    some (fibreChannel b.fibre (Fin.ofNat 32 next), idleWord)
  | .release, .slot next => some (channelAt sw.trunk.val (Fin.ofNat 32 next), idleWord)
  | .bridge, .slot next => some (fibreForm b.fibre b.map (Fin.ofNat 32 next), bridgeCopy read)
  | .roll, c => sw.readsAt.bind fun x => (rollRewrite b sw.trunk c.covers read).map fun w => (x, w)
  | .unroll, c => sw.readsAt.bind fun x => (unrollRewrite b sw.trunk c.covers read).map fun w => (x, w)
  | _, _ => none

/-- The word that a unit at a sweep's cursor reads; 0 for a kind that reads nothing. -/
def State.unitRead (s : State) (sw : Sweep) : Word :=
  match sw.readsAt with
  | some x => s.readWord x
  | none => 0

/-- The write that a unit at a sweep's cursor makes in this state. -/
def State.sweepWrite (s : State) (sw : Sweep) : Option (Physical × Word) :=
  (s.trunk sw.trunk).binding.bind fun b => sw.unitWrite b (s.unitRead sw)

/-- The accesses and reports of a sweep unit: its read, its write if it makes one, and for a CENSUS unit the
word handed to the listener index (R42, R50, R66). -/
def State.sweepAccesses (s : State) (sw : Sweep) : State × List Occurrence :=
  match sw.kind, sw.readsAt with
  | .census, some x => s.censusRead sw.trunk x (s.readWord x)
  | _, _ => s.writesReported (s.sweepWrite sw).toList

/-- Whether the read of a sweep unit is parity-failed (R49). -/
def State.sweepReadFailed (s : State) (sw : Sweep) : Bool := sw.readsAt.isSome && parityFailed (s.unitRead sw)

/-- A sweep unit of trunk `p` from its grant up to step (2) of its end (R85): its accesses and
reports, the units done, STORE_PARITY for a parity-failed read, and the phase changes of the faults that arose. -/
def State.runSweepUnit (s : State) (p : Port) : State :=
  match s.sweepOf p with
  | none => s
  | some sw =>
    let failed := s.sweepReadFailed sw
    let r := s.sweepAccesses sw
    let counted :=
      match r.1.sweepOf p with
      | some now => r.1.setSweep now.counted
      | none => r.1
    let r2 := if failed then raiseInUnit (counted, r.2) .storeParity (some p) else (counted, r.2)
    r2.1.dispatchAll r2.2

/-! ## Processor units -/

/-- READY is given for the cycle that the port keeps (R37). -/
def State.giveReady (s : State) : State := { s with port := { s.port with cycle := none } }

/-- READY is given for a read, with a word on the bus (R37). -/
def State.giveReadyWith (s : State) (w : Word) : State := { s with port := { cycle := none, readData := w } }

/-- The report of a served store cycle to the control channel (R40, R192). -/
def State.reportStoreCycle (s : State) (address : Listed) (isRead : Bool) : State :=
  match s.channel.state with
  | .closed knock =>
    let next :=
      if address = windowAddress s.straps.win && isRead then
        (if knock < 3 then ChannelState.closed (knock + 1) else .opened)
      else .closed 0
    { s with channel := { s.channel with state := next } }
  | _ => s

/-- The writes of a processor write unit, in order (R38, R12). -/
def State.processorWrites (s : State) (a : Listed) (w : Word) : List (Physical × Word) :=
  (s.landingSet a).map (fun x => (x, s.translateWrite w))

/-- A processor write unit from its grant to its end (R38). -/
def State.runProcessorWrite (s : State) (a : Listed) (w : Word) : State :=
  let r := s.writesReported (s.processorWrites a w)
  ((r.1.reportStoreCycle a false).giveReady).dispatchAll r.2

/-- A processor read unit from its grant to its end (R39): STORE_PARITY and STRAY_SOURCE carry no trunk. -/
def State.runProcessorRead (s : State) (a : Listed) : State :=
  let w := s.readWord (s.readAddress a)
  let r1 := if parityFailed w then raiseInUnit (s, []) .storeParity none else (s, [])
  let r2 := if s.readIsStray w then raiseInUnit r1 .straySource none else r1
  ((r2.1.reportStoreCycle a true).giveReadyWith (s.translateRead w)).dispatchAll r2.2

/-- The response of READ_STORE formed when its access ends (R205), or discarded when PRST has closed the
channel meanwhile (R56). -/
def State.answerRaw (s : State) (w : Word) : State :=
  match s.channel.state with
  | .collecting _ _ _ =>
    { s with channel :=
      { state := .answering [headerWord .done 2, w, flagBit (parityFailed w) 0] 0, lastResult := .done } }
  | _ => s

/-- A READ_STORE access from its grant to its end (R54). -/
def State.runRawRead (s : State) (x : Physical) : State := (s.answerRaw (s.readWord x)).giveReady

/-- A store unit from its grant to its end (R43), for a sweep unit up to step (2) of R85. -/
def State.runUnit (s : State) : StoreUnit → State
  | .processor (.read a) => s.runProcessorRead a
  | .processor (.write a w) => s.runProcessorWrite a w
  | .processor (.raw x) => s.runRawRead x
  | .sweep _ p => s.runSweepUnit p

/-! ## The end of the unit in progress, and the next grant -/

/-- The state at the unit boundary, at which an event that arrived during a unit takes its effects (R41, R43): the
unit in progress has ended, a sweep unit up to step (2) of R85, and the store is free. -/
def State.atBoundary (s : State) : State :=
  match s.arbiter.inProgress with
  | none => s
  | some u =>
    let t := s.runUnit u
    { t with arbiter := { t.arbiter with inProgress := none } }

/-- The cursor move of R85 (3). A sweep that is cancelled or replaced by then is left as it stands. -/
def State.moveCursor (s : State) (kind : SweepKind) (p : Port) : State :=
  { s with sweeps := s.sweeps.map (fun sw => if sw.trunk = p && sw.kind = kind then s.advanced sw else sw) }

/-- The cursor move that a unit owes at its end: that of a sweep unit. -/
def State.moveCursorOf (s : State) : Option StoreUnit → State
  | some (.sweep kind p) => s.moveCursor kind p
  | _ => s

/-- An event that takes its effects when the unit in progress ends (R41, R43): after step (2) of R85, so that a
sweep which it cancels or replaces makes no cursor move and no completion. -/
def State.atUnitEnd (s : State) (effect : State → State) : State :=
  (effect s.atBoundary).moveCursorOf s.arbiter.inProgress

/-- The unit in progress runs to its end with no other event, and the store is free (R43, R85). -/
def State.finishUnit (s : State) : State := s.atUnitEnd (fun t => t)

/-- The processor unit is granted: the allowance count returns to 0 (R45). -/
def Arbiter.grantProcessor (a : Arbiter) (u : ProcessorUnit) : Arbiter :=
  { a with inProgress := some (.processor u), waiting := none, allowance := 0 }

/-- A sweep unit is granted: the allowance count rises by one when a processor unit waits behind a class A
sweep (R45, R46). -/
def Arbiter.grantSweep (a : Arbiter) (sw : Sweep) : Arbiter :=
  { a with
    inProgress := some (.sweep sw.kind sw.trunk),
    allowance := if a.waiting.isSome && sw.kind.classA then a.allowance + 1 else a.allowance }

/-- The grant decision of a free store (R45). -/
def Arbiter.decide (a : Arbiter) (offer : Option Sweep) : Arbiter :=
  match a.waiting, offer with
  | none, none => a
  | some u, none => a.grantProcessor u
  | none, some sw => a.grantSweep sw
  | some u, some sw => if sw.kind.classA && a.allowance < 8 then a.grantSweep sw else a.grantProcessor u

/-! ## A unit cut short by power-on reset -/

/-- The accesses of a store unit in order: a write, or none for a read (R42). -/
def State.unitAccesses (s : State) : StoreUnit → List (Option (Physical × Word))
  | .processor (.read _) | .processor (.raw _) => [none]
  | .processor (.write a w) => (s.processorWrites a w).map some
  | .sweep kind p =>
    match s.sweepOf p with
    | none => []
    | some sw =>
      match kind with
      | .prepare | .release | .unbridge => [s.sweepWrite sw]
      | .census => [none]
      | .bridge | .roll | .unroll => [none, s.sweepWrite sw]

/-- The store after the first `made` accesses of the unit in progress, the rest not made (R55). -/
def State.storeCutShort (s : State) (made : Nat) : List (Nat × Word) :=
  match s.arbiter.inProgress with
  | none => s.store
  | some u =>
    (((s.unitAccesses u).take made).filterMap id).foldl (fun m xw => insertWord m xw.1.toNat xw.2) s.store

end Sys2Proof.Machine
end

