-- ==== Sys2Proof/Machine/Boundary.lean ====
section
/-! DEFINITION. What happens between two store units: the completions of sweeps (R86), a fault raised outside a
unit (R180 to R185), the channel cycle that waits to be served (R37, R41), and the next grant. -/

namespace Sys2Proof.Machine

/-! ## Completions (R86) -/

/-- The soak in force: S × 2^E multiframes (R108). -/
def Timing.soakInForce (t : Timing) : Nat := t.soakMantissa * 2 ^ t.soakExponent

/-- Completion of PREPARE: the prepared flag becomes yes (R24). -/
def State.completePrepare (s : State) (p : Port) : State :=
  let s1 := s.removeSweep p
  let r := s1.trunk p
  s1.setTrunk p { r with binding := r.binding.map (fun b => { b with prepared := true }) }

/-- Completion of CENSUS: CENSUS to TRACKED; after RECENSUS the phase is kept (R120). -/
def State.completeCensus (s : State) (p : Port) : State :=
  let s1 := s.removeSweep p
  match s1.phase p with
  | .census => s1.changeTrunk p { s1.trunk p with phase := .tracked }
  | _ => s1

/-- Completion of BRIDGE: BRIDGING to BRIDGED (R120). -/
def State.completeBridge (s : State) (p : Port) : State :=
  let s1 := s.removeSweep p
  match s1.phase p with
  | .bridging => s1.changeTrunk p { s1.trunk p with phase := .bridged }
  | _ => s1

/-- Completion of ROLL: ROLLING to ROLLED, commit no, the soak remainder loaded with the soak in force
(R133, R108). -/
def State.completeRoll (s : State) (p : Port) : State :=
  let s1 := s.removeSweep p
  match s1.phase p with
  | .rolling =>
    s1.changeTrunk p
      { s1.trunk p with phase := .rolled, commit := false, soak := some s1.timing.soakInForce }
  | _ => s1

/-- Completion of UNROLL: to BRIDGED, or to UNBRIDGING with an UNBRIDGE sweep, by the undo target (R152). -/
def State.completeUnroll (s : State) (p : Port) : State :=
  let s1 := s.removeSweep p
  match s1.phase p, (s1.trunk p).undo with
  | .unrolling, some .bridged =>
    s1.changeTrunk p { s1.trunk p with phase := .bridged, undo := none, rollStart := none }
  | .unrolling, some .bound =>
    (s1.changeTrunk p { s1.trunk p with phase := .unbridging, rollStart := none }).queueSweep .unbridge p
  | _, _ => s1

/-- Completion of RELEASE: RELEASING to MIGRATED and lingering, auto cleared, the links freed (R136, R71). -/
def State.completeRelease (s : State) (p : Port) : State :=
  let s1 := s.removeSweep p
  match s1.phase p with
  | .releasing =>
    (s1.changeTrunk p { s1.trunk p with phase := .migrated, lingering := true, autoLead := none }).clearIndex p
  | _ => s1

/-- Completion of UNBRIDGE: UNBRIDGING to BOUND, the links freed, the record no longer announced (R153). -/
def State.completeUnbridge (s : State) (p : Port) : State :=
  let s1 := s.removeSweep p
  match s1.phase p with
  | .unbridging =>
    ((s1.setTrunk p { s1.trunk p with phase := .bound, undo := none, rollStart := none }).clearIndex
      p).leaveAnnounced p
  | _ => s1

/-- The completion of a sweep of this kind and trunk, taken by the phase machine (R86). -/
def State.complete (s : State) (kind : SweepKind) (p : Port) : State :=
  match kind with
  | .prepare => s.completePrepare p
  | .census => s.completeCensus p
  | .bridge => s.completeBridge p
  | .roll => s.completeRoll p
  | .unroll => s.completeUnroll p
  | .release => s.completeRelease p
  | .unbridge => s.completeUnbridge p

/-! ## Faults raised outside a unit -/

/-- A fault raised at an event of its own: the collector takes the occurrence at the event, and a dispatch of
fallback takes its phase changes at the unit boundary (R180, R182, R185). -/
def State.raise (s : State) (src : FaultSource) (trunk : Option Port) : State :=
  let s1 := s.recordOccurrence src trunk
  if s1.dispatches src then s1.atUnitEnd (fun t => t.dispatchFallback trunk) else s1

/-! ## The events of a boundary (R125) -/

/-- A step of the boundary evaluation. -/
def Due.inEvaluation : Due → Bool
  | .soakExpiry _ | .returnToBridged _ | .autoStart _ | .autoBridge _ | .arming _ _ | .releaseAtBoundary _
  | .rollStart _ => true
  | _ => false

/-- The step of the boundary evaluation that is taken next: they are taken in the order in which the evaluation
made them due (R115, R125, R128, R131). -/
def State.nextStep (s : State) : Option Due := s.due.find? Due.inEvaluation

/-- Whether a step of the boundary evaluation is still to be taken. -/
def State.evaluating (s : State) : Bool := s.due.any Due.inEvaluation

/-- Whether the present event of the hardware is still to be taken to its end. A channel cycle and a completion wait
for it, as each comes before the whole event or after it: a frame pulse with its boundary is one event (R99, R139,
R140), and so is a byte with the dispatch of its frame (R163, R165). -/
def State.midEvent (s : State) : Bool := !s.due.isEmpty

/-- Whether a gap expiry has still to wait: the transition of its boundary to silence and the steps of the evaluation
come before a frame that it recovers (R111, R157, R172). -/
def State.gapWaits (s : State) : Bool := s.evaluating || s.due.contains .peerSilent

/-! ## The channel cycle that waits to be served -/

/-- What the channel does with the channel cycle that the port keeps (R193, R194, R196). -/
inductive ChannelAct where
  | read
  | commandWord (word : Word)
  | parameterWord (word : Word)
  | unknown
  | execute (command : Command) (target : Byte) (params : List Word)
deriving DecidableEq, Repr

/-- What a word taken as a command word makes the channel do (R193). -/
def actOfCommandWord (w : Word) : ChannelAct :=
  match commandOfCode (highByte w) with
  | none => .unknown
  | some c => if c.parameterWords = 0 then .execute c (lowByte w) [] else .commandWord w

/-- Whether the access of a READ_STORE is still to be made (R54). -/
def State.rawPending (s : State) : Bool :=
  match s.arbiter.waiting, s.arbiter.inProgress with
  | some (.raw _), _ => true
  | _, some (.processor (.raw _)) => true
  | _, _ => false

/-- What the channel does next: the channel cycle that the port keeps, unless it waits for the access of a
READ_STORE (R37, R41) or for the end of the present event (R99, R139). -/
def State.channelAct (s : State) : Option ChannelAct :=
  match s.port.cycle with
  | some { cycle := c, cls := some .channel } =>
    if s.rawPending || s.midEvent then none
    else
      match s.channel.state, c with
      | .closed _, _ => none
      | _, .read _ => some .read
      | .opened, .write _ w => some (actOfCommandWord w)
      | .answering _ _, .write _ w => some (actOfCommandWord w)
      | .collecting command taken required, .write _ w =>
        if taken.length + 1 < required then some (.parameterWord w)
        else
          (commandOfCode (highByte command)).map
            (fun c => ChannelAct.execute c (lowByte command) (taken ++ [w]))
  | _ => none

/-! ## The next grant -/

/-- Whether an event of the present moment comes before the engine and the arbiter go on: an event that is due, or
a channel cycle to serve (R41, R45). -/
def State.eventWaits (s : State) : Bool := !s.due.isEmpty || s.channelAct.isSome

/-- Whether an event is due before the next grant: a completion, an event of the present boundary or frame,
or a channel cycle to serve (R41, R45, R86). -/
def State.somethingDue (s : State) : Bool := s.completed.isSome || s.eventWaits

/-- The arbiter's decision, when no completion comes before it (R45, R86). -/
def State.arbitrate (s : State) : State :=
  if s.completed.isSome then s else { s with arbiter := s.arbiter.decide s.sweepOffer }

/-- The end of an event: at a unit boundary at which no other event waits, the engine determines the executing
sweep again (R79), and the arbiter decides the next grant (R45). An event that changes the queue several times has it
determined once, after the last change (log 31). -/
def State.resume (s : State) : State :=
  if s.arbiter.inProgress.isSome || s.eventWaits then s else s.engine.arbitrate

end Sys2Proof.Machine
end

