-- ==== Sys2Proof/Machine/Channel.lean ====
section
/-! DEFINITION. The control channel (chapter 11): how a command is served and answered, single and group
targets (R21, R201), and the steps CHANNEL_READ, COMMAND_WORD, PARAMETER_WORD, UNKNOWN_COMMAND and CLOSE.
A step that serves a channel cycle occurs when the port keeps a channel cycle that the channel takes in that
way (`State.channelAct`); at any other moment it does not occur and the state stays as it is (log 2). -/

namespace Sys2Proof.Machine

/-- The outcome of a command: the state, the result, and the words after the header. -/
abbrev Answer := State × Result × List Word

/-- The channel enters ANSWERING with a response pending at its header, the last result becomes the header's
result (R195), and READY is given. -/
def State.respond (r : Answer) : State :=
  ({ r.1 with channel :=
      { state := .answering (headerWord r.2.1 r.2.2.length :: r.2.2) 0, lastResult := r.2.1 } } :
    State).giveReady

/-- Whether a member word carries a refusal (R200, R201). -/
def refusedWord (w : Word) : Bool := 3 ≤ (highByte w).toNat && (highByte w).toNat ≤ 14

/-- Whether an answer refuses the command: its result does, or every member's result in a group response (R41,
R201, log 29). -/
def Answer.refused (r : Answer) : Bool := r.2.1.refuses || (r.2.1 = .mixed && r.2.2.all refusedWord)

/-- A command served: it executes at the channel write that completes it. One that its tests refuse is answered
at once; the effects of any other are taken when the unit in progress ends, and its response is formed from the
state as it stands after them (R41, R195, log 28). -/
def State.serve (s : State) (c : Command) (body : Byte → List Word → State → Answer) : State :=
  match s.channelAct with
  | some (.execute c' target params) =>
    if c' = c then
      (if Answer.refused (body target params s) then State.respond (body target params s)
       else s.atUnitEnd (fun t => State.respond (body target params t))).resume
    else s
  | _ => s

/-! ## Targets (R20, R21, R201) -/

/-- A command applied to each member in turn, every test made anew (R21). -/
def onMembers (one : State → Port → State × Result) : State → List Port → State × List (Port × Result)
  | s, [] => (s, [])
  | s, p :: rest =>
    let r := one s p
    let more := onMembers one r.1 rest
    (more.1, (p, r.2) :: more.2)

/-- The header's result of a group response: the result that all members gave, else MIXED (R21). -/
def commonResult : List (Port × Result) → Result
  | [] => .badTarget
  | (_, r) :: rest => if rest.all (fun m => m.2 = r) then r else .mixed

/-- A command that takes copper port and group targets (R20, R21). -/
def recordCommand (one : State → Port → State × Result) (target : Byte) (s : State) : Answer :=
  match targetOf target with
  | .copper p =>
    let r := one s p
    (r.1, r.2, [])
  | .noRecord | .other => (s, .badTarget, [])
  | .group g =>
    match s.members (.group g) with
    | [] => (s, .badTarget, [])
    | p :: rest =>
      let r := onMembers one s (p :: rest)
      (r.1, commonResult r.2, r.2.map (fun m => memberWord m.1 m.2))
  | .allBound =>
    match s.members .allBound with
    | [] => (s, .badTarget, [])
    | p :: rest =>
      let r := onMembers one s (p :: rest)
      (r.1, commonResult r.2, r.2.map (fun m => memberWord m.1 m.2))

/-- A command that takes a copper port target only (R20). -/
def copperCommand (body : Port → State → Answer) (target : Byte) (s : State) : Answer :=
  match targetOf target with
  | .copper p => body p s
  | _ => (s, .badTarget, [])

/-- A command that takes the target FFh only (R200). -/
def deviceCommand (body : State → Answer) (target : Byte) (s : State) : Answer :=
  match targetOf target with
  | .noRecord => body s
  | _ => (s, .badTarget, [])

/-! ## CHANNEL_READ (R193, R194, R196) -/

/-- A window read in COLLECTING abandons the command (R194): CHANNEL_PROTOCOL is raised and the status word
returned carries ABANDONED. The status word is the one after the occurrence: where its class FALLBACK dispatches
fallback, it is formed after the unit in progress has ended (log 30). -/
def State.abandon (s : State) : State :=
  let s1 := ({ s with channel := { state := .opened, lastResult := .abandoned } } : State).raise
    .channelProtocol none
  s1.giveReadyWith s1.statusWord

/-- A window read in ANSWERING delivers the response word at the read position, and after the last word the
channel enters OPEN (R196). -/
def State.deliver (s : State) (words : List Word) (position : Nat) : State :=
  let next := if position + 1 < words.length then ChannelState.answering words (position + 1) else .opened
  ({ s with channel := { s.channel with state := next } } : State).giveReadyWith (words.getD position 0)

/-- CHANNEL_READ: a window read in an open session (R193, R194, R196). -/
def State.serveChannelRead (s : State) : State :=
  match s.channelAct with
  | some .read =>
    (match s.channel.state with
    | .collecting _ _ _ => s.abandon
    | .answering words position => s.deliver words position
    | .opened | .closed _ => s.giveReadyWith s.statusWord).resume
  | _ => s

/-- CHANNEL_READ. -/
def execChannelRead (s : State) : Host.Outcome State Fault Refusal := .next s.serveChannelRead

/-! ## COMMAND_WORD and PARAMETER_WORD (R193, R194) -/

/-- COMMAND_WORD: a known code that needs parameters enters COLLECTING; an unread response is discarded
(R193, R196). -/
def State.serveCommandWord (s : State) : State :=
  match s.channelAct with
  | some (.commandWord w) =>
    let required := ((commandOfCode (highByte w)).map Command.parameterWords).getD 0
    ({ s with channel := { s.channel with state := .collecting w [] required } } : State).giveReady.resume
  | _ => s

/-- COMMAND_WORD. -/
def execCommandWord (s : State) : Host.Outcome State Fault Refusal := .next s.serveCommandWord

/-- PARAMETER_WORD: a window write in COLLECTING that does not complete the command joins it (R194). -/
def State.serveParameterWord (s : State) : State :=
  match s.channelAct, s.channel.state with
  | some (.parameterWord w), .collecting command taken required =>
    ({ s with channel := { s.channel with state := .collecting command (taken ++ [w]) required } } :
      State).giveReady.resume
  | _, _ => s

/-- PARAMETER_WORD. -/
def execParameterWord (s : State) : Host.Outcome State Fault Refusal := .next s.serveParameterWord

/-! ## UNKNOWN_COMMAND (R193) -/

/-- UNKNOWN_COMMAND: an UNKNOWN header with count 0, the last result UNKNOWN, CHANNEL_PROTOCOL raised, and
ANSWERING (R193). -/
def State.serveUnknown (s : State) : State :=
  match s.channelAct with
  | some .unknown => (State.respond (s.raise .channelProtocol none, .unknown, [])).resume
  | _ => s

/-- UNKNOWN_COMMAND. -/
def execUnknownCommand (s : State) : Host.Outcome State Fault Refusal := .next s.serveUnknown

/-! ## CLOSE (R198) -/

/-- The effects of CLOSE: the channel is CLOSED with knock count 0, a pending response is discarded, the last result
is DONE, no response is formed, and READY is given (R198). -/
def State.closeSession (s : State) : State :=
  ({ s with channel := { state := .closed 0, lastResult := .done } } : State).giveReady

/-- CLOSE, with any target: its tests refuse nothing, so its effects are taken when the unit in progress ends, and
READY is given then (R41, R43, R195, R198). -/
def State.serveClose (s : State) : State :=
  match s.channelAct with
  | some (.execute .close _ _) => (s.atUnitEnd State.closeSession).resume
  | _ => s

/-- CLOSE. -/
def execClose (s : State) : Host.Outcome State Fault Refusal := .next s.serveClose

end Sys2Proof.Machine
end

