-- ==== Sys2Proof/Machine/Binding.lean ====
section
/-! DEFINITION. The commands of chapter 2: BIND, UNBIND, GROUPS, LOCK, UNLOCK, PIN and ERASE_IMAGE. -/

namespace Sys2Proof.Machine

/-! ## BIND (R22, R23) -/

/-- A record made BOUND (R23). Its lock, groups, requests and flags stand as FREE left them. -/
def TrunkRecord.madeBound (r : TrunkRecord) (b : Binding) : TrunkRecord :=
  { r with
    phase := .bound, binding := some b, commit := false, indexLost := false, autoLead := none,
    rollRequest := none, releaseRequest := false }

/-- Whether a bound record holds this circuit identifier (R22). -/
def State.circuitHeld (s : State) (circuit : Word) : Bool :=
  allPorts.any (fun p => match (s.trunk p).binding with
    | some b => b.circuit = circuit
    | none => false)

/-- The map that BIND gives: the identity map when the identity flag (bit 15 of word 1) is set, else the
entries when they form a valid map (R22 (5)). -/
def bindMap (params : List Word) : Option ChannelMap :=
  if (parameter params 0).getLsbD 15 then some identityMap
  else
    match mapOfBytes (bindEntries params) with
    | some m => if validMap m then some m else none
    | none => none

/-- BIND of record `p` with the words of a command (R22, R23). -/
def bindRecord (params : List Word) (p : Port) (s : State) : Answer :=
  if s.phase p != .free then (s, .state, [])
  else
    match fibrePortOf (lowByte (parameter params 0)).toNat with
    | none => (s, .badParam, [])
    | some F =>
      if (s.boundTo F).isSome || s.circuitHeld (parameter params 1) then (s, .conflict, [])
      else
        match bindMap params with
        | none => (s, .map, [])
        | some m =>
          let b : Binding :=
            { fibre := F, circuit := parameter params 1, map := m, digest := mapDigest m,
              prepared := false, fibreAlarm := s.link.alarmSet.getLsbD F.val }
          ((((s.setTrunk p ((s.trunk p).madeBound b)).setBoundTo F (some p)).queueSweep .prepare p),
            .accepted, [])

/-- BIND. -/
def State.serveBind (s : State) : State :=
  s.serve .bind (fun target params => copperCommand (bindRecord params) target)

/-- BIND. -/
def execBind (s : State) : Host.Outcome State Fault Refusal := .next s.serveBind

/-! ## UNBIND (R25) -/

/-- Record `p` becomes FREE: the binding, its entry in the fibre binding table, groups, lock and auto go, and
its sweep is cancelled (R19, R25, R83). -/
def State.freeRecord (s : State) (p : Port) : State :=
  let s1 := match (s.trunk p).binding with
    | some b => s.setBoundTo b.fibre none
    | none => s
  (s1.setTrunk p TrunkRecord.freeRecord).removeSweep p

/-- UNBIND of one record (R25). -/
def unbindOne (s : State) (p : Port) : State × Result :=
  if (s.trunk p).lock != .unlocked then (s, .locked)
  else
    match s.phase p with
    | .bound => (s.freeRecord p, .done)
    | _ => (s, .state)

/-- UNBIND. -/
def State.serveUnbind (s : State) : State := s.serve .unbind (fun target _ => recordCommand unbindOne target)

/-- UNBIND. -/
def execUnbind (s : State) : Host.Outcome State Fault Refusal := .next s.serveUnbind

/-! ## GROUPS (R26) -/

/-- GROUPS of record `p` with its parameter word (R26). -/
def groupsRecord (w : Word) (p : Port) (s : State) : Answer :=
  if (s.trunk p).lock != .unlocked then (s, .locked, [])
  else if s.phase p = .free then (s, .state, [])
  else
    match groupsOfWord w with
    | none => (s, .badParam, [])
    | some gs => (s.setTrunk p { s.trunk p with groups := gs }, .done, [])

/-- GROUPS. -/
def State.serveGroups (s : State) : State :=
  s.serve .groups (fun target params => copperCommand (groupsRecord (parameter params 0)) target)

/-- GROUPS. -/
def execGroups (s : State) : Host.Outcome State Fault Refusal := .next s.serveGroups

/-! ## LOCK and UNLOCK (R29) -/

/-- The lock of record `p` replaced. -/
def State.setLock (s : State) (p : Port) (l : Lock) : State := s.setTrunk p { s.trunk p with lock := l }

/-- LOCK of one record (R29). -/
def lockOne (s : State) (p : Port) : State × Result :=
  if s.phase p = .free then (s, .state)
  else
    match (s.trunk p).lock with
    | .unlocked | .locked => (s.setLock p .locked, .done)
    | .pinned => (s, .done)

/-- LOCK. -/
def State.serveLock (s : State) : State := s.serve .lock (fun target _ => recordCommand lockOne target)

/-- LOCK. -/
def execLock (s : State) : Host.Outcome State Fault Refusal := .next s.serveLock

/-- UNLOCK of one record (R29). -/
def unlockOne (s : State) (p : Port) : State × Result :=
  if s.phase p = .free then (s, .state)
  else
    match (s.trunk p).lock with
    | .unlocked | .locked => (s.setLock p .unlocked, .done)
    | .pinned => (s, .locked)

/-- UNLOCK. -/
def State.serveUnlock (s : State) : State := s.serve .unlock (fun target _ => recordCommand unlockOne target)

/-- UNLOCK. -/
def execUnlock (s : State) : Host.Outcome State Fault Refusal := .next s.serveUnlock

/-! ## PIN (R30, R31) -/

/-- The content that PIN programs: copper port, fibre port, circuit, map and groups of the record (R31). -/
def slotContent (p : Port) (r : TrunkRecord) (b : Binding) : SlotRecord where
  copper  := p
  fibre   := BitVec.ofNat 8 (FibrePort.number b.fibre)
  circuit := b.circuit
  map     := Vector.ofFn (fun k => BitVec.ofNat 8 b.map[k].val)
  groups  := r.groups

/-- Image slot `p` (R30). -/
def State.slot (s : State) (p : Port) : ImageSlot := s.image.slots[p]

/-- PIN of one record (R31). A slot is equal to the record when it holds what PIN would program (R30). -/
def pinOne (s : State) (p : Port) : State × Result :=
  match s.phase p, (s.trunk p).binding with
  | .migrated, some b =>
    if s.image.state != .ready then (s, .busy)
    else
      match s.slot p with
      | .blank =>
        let s1 := s.setLock p .pinned
        ({ s1 with image := { s1.image with state := .programming p (slotContent p (s.trunk p) b) } },
          .accepted)
      | .failing => (s, .state)
      | .good c => if c = slotContent p (s.trunk p) b then (s, .done) else (s, .state)
  | _, _ => (s, .state)

/-- PIN. -/
def State.servePin (s : State) : State := s.serve .pin (fun target _ => recordCommand pinOne target)

/-- PIN. -/
def execPin (s : State) : Host.Outcome State Fault Refusal := .next s.servePin

/-! ## ERASE_IMAGE (R33) -/

/-- ERASE_IMAGE: BUSY unless READY, else the image state becomes ERASING (R33). -/
def eraseImage (s : State) : Answer :=
  if s.image.state != .ready then (s, .busy, [])
  else ({ s with image := { s.image with state := .erasing } }, .accepted, [])

/-- ERASE_IMAGE. -/
def State.serveEraseImage (s : State) : State :=
  s.serve .eraseImage (fun target _ => deviceCommand eraseImage target)

/-- ERASE_IMAGE. -/
def execEraseImage (s : State) : Host.Outcome State Fault Refusal := .next s.serveEraseImage

end Sys2Proof.Machine
end

