-- ==== Sys2Proof/Machine/Cutover.lean ====
section
/-! DEFINITION. The cutover commands of chapters 7 and 8: START, BRIDGE, ROLL, RELEASE, AUTO, RECENSUS, DISARM,
FALLBACK and ABORT, each as its effect on one record and as a served command. -/

namespace Sys2Proof.Machine

/-! ## START (R117, R118) -/

/-- The effects of START on record `p`: CENSUS, followed by the index, its CENSUS sweep queued, announced
(R118). -/
def State.startRecord (s : State) (p : Port) : State :=
  ((s.setTrunk p { s.trunk p with phase := .census }).queueSweep .census p).joinAnnounced p

/-- Whether a record is BOUND with its prepared flag yes (R117). -/
def TrunkRecord.preparedBound (r : TrunkRecord) : Bool :=
  r.phase = .bound && (match r.binding with
    | some b => b.prepared
    | none => false)

/-- START of one record (R117). -/
def startOne (s : State) (p : Port) : State × Result :=
  if (s.trunk p).lock != .unlocked then (s, .locked)
  else if s.inHold then (s, .held)
  else if !(s.trunk p).preparedBound then (s, .state)
  else if 8 ≤ s.announcedCount then (s, .limit)
  else (s.startRecord p, .accepted)

/-- START. -/
def State.serveStart (s : State) : State := s.serve .start (fun target _ => recordCommand startOne target)

/-- START. -/
def execStart (s : State) : Host.Outcome State Fault Refusal := .next s.serveStart

/-! ## BRIDGE (R119) -/

/-- The effects of BRIDGE on record `p`: BRIDGING, its BRIDGE sweep queued (R119). -/
def State.bridgeRecord (s : State) (p : Port) : State :=
  (s.changeTrunk p { s.trunk p with phase := .bridging }).queueSweep .bridge p

/-- BRIDGE of one record (R117). -/
def bridgeOne (s : State) (p : Port) : State × Result :=
  if (s.trunk p).lock != .unlocked then (s, .locked)
  else if s.inHold then (s, .held)
  else
    match s.phase p with
    | .tracked => if s.hasSweep p then (s, .state) else (s.bridgeRecord p, .accepted)
    | _ => (s, .state)

/-- BRIDGE. -/
def State.serveBridge (s : State) : State := s.serve .bridge (fun target _ => recordCommand bridgeOne target)

/-- BRIDGE. -/
def execBridge (s : State) : Host.Outcome State Fault Refusal := .next s.serveBridge

/-! ## ROLL (R121) -/

/-- ROLL of one record with a lead (R117, R121, R107). -/
def rollOne (lead : Nat) (s : State) (p : Port) : State × Result :=
  if (s.trunk p).lock != .unlocked then (s, .locked)
  else if s.inHold then (s, .held)
  else
    match s.phase p with
    | .bridging | .bridged =>
      (s.setTrunk p { s.trunk p with rollRequest := some (normaliseLead lead) }, leadResult lead .accepted)
    | _ => (s, .state)

/-- ROLL. -/
def State.serveRoll (s : State) : State :=
  s.serve .roll (fun target params => recordCommand (rollOne (parameter params 0).toNat) target)

/-- ROLL. -/
def execRoll (s : State) : Host.Outcome State Fault Refusal := .next s.serveRoll

/-! ## RELEASE (R122) -/

/-- RELEASE of one record (R117, R122). -/
def releaseOne (s : State) (p : Port) : State × Result :=
  if (s.trunk p).lock != .unlocked then (s, .locked)
  else if s.inHold then (s, .held)
  else
    match s.phase p with
    | .rolling | .rolled => (s.setTrunk p { s.trunk p with releaseRequest := true }, .accepted)
    | _ => (s, .state)

/-- RELEASE. -/
def State.serveRelease (s : State) : State :=
  s.serve .release (fun target _ => recordCommand releaseOne target)

/-- RELEASE. -/
def execRelease (s : State) : Host.Outcome State Fault Refusal := .next s.serveRelease

/-! ## AUTO (R123) -/

/-- AUTO of one record with its first parameter and its lead (R117, R123). -/
def autoOne (setting lead : Nat) (s : State) (p : Port) : State × Result :=
  if (s.trunk p).lock != .unlocked then (s, .locked)
  else if 1 < setting then (s, .badParam)
  else if setting = 1 then
    match s.phase p with
    | .bound | .census | .tracked | .bridging | .bridged | .armed | .rolling | .rolled =>
      (s.setTrunk p { s.trunk p with autoLead := some (normaliseLead lead) }, leadResult lead .done)
    | _ => (s, .state)
  else if s.isBound p then (s.setTrunk p { s.trunk p with autoLead := none }, .done)
  else (s, .state)

/-- AUTO. -/
def State.serveAuto (s : State) : State :=
  s.serve .auto (fun target params =>
    recordCommand (autoOne (parameter params 0).toNat (parameter params 1).toNat) target)

/-- AUTO. -/
def execAuto (s : State) : Host.Outcome State Fault Refusal := .next s.serveAuto

/-! ## RECENSUS (R124, R70) -/

/-- RECENSUS of one record (R117, R124). -/
def recensusOne (s : State) (p : Port) : State × Result :=
  if (s.trunk p).lock != .unlocked then (s, .locked)
  else if s.inHold then (s, .held)
  else
    match s.phase p with
    | .tracked | .bridged =>
      if s.hasSweep p then (s, .state) else ((s.clearIndex p).queueSweep .census p, .accepted)
    | _ => (s, .state)

/-- RECENSUS. -/
def State.serveRecensus (s : State) : State :=
  s.serve .recensus (fun target _ => recordCommand recensusOne target)

/-- RECENSUS. -/
def execRecensus (s : State) : Host.Outcome State Fault Refusal := .next s.serveRecensus

/-! ## DISARM (R143) -/

/-- DISARM of one record (R143). -/
def disarmOne (s : State) (p : Port) : State × Result :=
  match s.phase p with
  | .armed => (s.disarmRecord p, .done)
  | _ => (s, .state)

/-- DISARM. -/
def State.serveDisarm (s : State) : State := s.serve .disarm (fun target _ => recordCommand disarmOne target)

/-- DISARM. -/
def execDisarm (s : State) : Host.Outcome State Fault Refusal := .next s.serveDisarm

/-! ## FALLBACK (R144 to R147) -/

/-- FALLBACK of one record: DONE from ARMED, ACCEPTED from ROLLING and uncommitted ROLLED, COMMITTED with
FALLBACK_BLOCKED raised for a committed record, else STATE (R144 to R147). -/
def fallbackOne (s : State) (p : Port) : State × Result :=
  match s.phase p, (s.trunk p).commit with
  | .armed, _ => (s.fallFromArmed p, .done)
  | .rolling, _ => (s.enterUnrolling p .bridged none, .accepted)
  | .rolled, false => (s.enterUnrolling p .bridged none, .accepted)
  | .rolled, true | .releasing, _ | .migrated, _ => (s.recordOccurrence .fallbackBlocked (some p), .committed)
  | _, _ => (s, .state)

/-- FALLBACK. -/
def State.serveFallback (s : State) : State :=
  s.serve .fallback (fun target _ => recordCommand fallbackOne target)

/-- FALLBACK. -/
def execFallback (s : State) : Host.Outcome State Fault Refusal := .next s.serveFallback

/-! ## ABORT (R148 to R151) -/

/-- ABORT in CENSUS or TRACKED: any CENSUS sweep cancelled, BOUND, the links freed, no longer announced
(R149). -/
def State.abortToBound (s : State) (p : Port) : State :=
  (((s.removeSweep p).setTrunk p { s.trunk p with phase := .bound }).clearIndex p).leaveAnnounced p

/-- ABORT in BRIDGING, BRIDGED or ARMED: any sweep cancelled, UNBRIDGING with undo target BOUND, epoch and
roll request absent, an UNBRIDGE sweep queued (R150). -/
def State.abortToUnbridging (s : State) (p : Port) : State :=
  (((s.removeSweep p).changeTrunk p
    { s.trunk p with
      phase := .unbridging, undo := some .bound, epoch := none, rollRequest := none }).leaveArmedList
        p).queueSweep .unbridge p

/-- ABORT of one record (R148). -/
def abortOne (s : State) (p : Port) : State × Result :=
  if (s.trunk p).lock != .unlocked then (s, .locked)
  else
    match s.phase p, (s.trunk p).commit with
    | .bound, _ => if s.hasSweep p then (s.removeSweep p, .accepted) else (s, .state)
    | .census, _ | .tracked, _ => (s.abortToBound p, .done)
    | .bridging, _ | .bridged, _ | .armed, _ => (s.abortToUnbridging p, .accepted)
    | .rolling, _ => (s.enterUnrolling p .bound (s.trunk p).autoLead, .accepted)
    | .rolled, false => (s.enterUnrolling p .bound (s.trunk p).autoLead, .accepted)
    | .rolled, true | .releasing, _ | .migrated, _ => (s, .committed)
    | .unrolling, _ =>
      if (s.trunk p).undo = some .bridged then
        (s.setTrunk p { s.trunk p with undo := some .bound }, .accepted)
      else (s, .done)
    | .unbridging, _ => (s, .done)
    | .free, _ => (s, .state)

/-- ABORT. -/
def State.serveAbort (s : State) : State := s.serve .abort (fun target _ => recordCommand abortOne target)

/-- ABORT. -/
def execAbort (s : State) : Host.Outcome State Fault Refusal := .next s.serveAbort

end Sys2Proof.Machine
end

