-- ==== Sys2Proof/Machine/FaultCommands.lean ====
section
/-! DEFINITION. The device-wide commands: HOLD, CLEAR_HOLD, CLEAR_FAULTS and SET_ACTION of chapter 10, and
SET_TIMING of chapter 6. -/

namespace Sys2Proof.Machine

/-! ## HOLD and CLEAR_HOLD (R188) -/

/-- HOLD (R188). -/
def State.serveHold (s : State) : State :=
  s.serve .hold (fun target _ => deviceCommand (fun s => (s.setHold true, .done, [])) target)

/-- HOLD. -/
def execHold (s : State) : Host.Outcome State Fault Refusal := .next s.serveHold

/-- CLEAR_HOLD (R188). -/
def State.serveClearHold (s : State) : State :=
  s.serve .clearHold (fun target _ => deviceCommand (fun s => (s.setHold false, .done, [])) target)

/-- CLEAR_HOLD. -/
def execClearHold (s : State) : Host.Outcome State Fault Refusal := .next s.serveClearHold

/-! ## CLEAR_FAULTS (R187) -/

/-- A source with its sticky flag, count and last trunk cleared; mask and class are kept (R187). -/
def SourceState.cleared (f : SourceState) : SourceState :=
  { f with sticky := false, count := 0, lastTrunk := none }

/-- Every source cleared and the first-fault record absent (R187). -/
def State.clearFaults (s : State) : State :=
  let s1 := FaultSource.all.foldl (fun t src => t.setSource src (t.source src).cleared) s
  { s1 with faults := { s1.faults with first := none } }

/-- CLEAR_FAULTS. -/
def State.serveClearFaults (s : State) : State :=
  s.serve .clearFaults (fun target _ => deviceCommand (fun s => (s.clearFaults, .done, [])) target)

/-- CLEAR_FAULTS. -/
def execClearFaults (s : State) : Host.Outcome State Fault Refusal := .next s.serveClearFaults

/-! ## SET_ACTION (R189) -/

/-- SET_ACTION with its parameter word: bits 0–4 the source, bit 7 the mask, bits 8–9 the class; FALLBACK for
FALLBACK_BLOCKED becomes HOLD (R189). -/
def setAction (w : Word) (s : State) : Answer :=
  match faultSourceOf (w.extractLsb' 0 5).toNat with
  | none => (s, .badParam, [])
  | some src =>
    let given := FaultClass.ofCode (w.extractLsb' 8 2)
    if src = .fallbackBlocked && given = .fallback then
      (s.setSource src { s.source src with mask := w.getLsbD 7, cls := .hold }, .clamped, [])
    else (s.setSource src { s.source src with mask := w.getLsbD 7, cls := given }, .done, [])

/-- SET_ACTION. -/
def State.serveSetAction (s : State) : State :=
  s.serve .setAction (fun target params => deviceCommand (setAction (parameter params 0)) target)

/-- SET_ACTION. -/
def execSetAction (s : State) : Host.Outcome State Fault Refusal := .next s.serveSetAction

/-! ## SET_TIMING (R112) -/

/-- A natural number brought into a range. -/
def clampNat (low high n : Nat) : Nat := max low (min high n)

/-- An integer brought into a range. -/
def clampInt (low high n : Int) : Int := max low (min high n)

/-- SET_TIMING with its four parameter words: the five settings take their clamped values together, and the
answer is CLAMPED if clamping changed any (R112). -/
def setTiming (params : List Word) (s : State) : Answer :=
  let trim := (parameter params 0).toInt
  let mantissa := (lowByte (parameter params 1)).toNat
  let exponent := (highByte (parameter params 1)).toNat
  let period := (parameter params 2).toNat
  let limit := (parameter params 3).toNat
  let t := { s.timing with
    trim := clampInt (-3) 4 trim, soakMantissa := clampNat 1 255 mantissa,
    soakExponent := clampNat 0 15 exponent, beaconPeriod := clampNat 4 255 period,
    silenceLimit := clampNat 1 15 limit }
  let same := t.trim = trim && t.soakMantissa = mantissa && t.soakExponent = exponent &&
    t.beaconPeriod = period && t.silenceLimit = limit
  ({ s with timing := t }, if same then .done else .clamped, [])

/-- SET_TIMING. -/
def State.serveSetTiming (s : State) : State :=
  s.serve .setTiming (fun target params => deviceCommand (setTiming params) target)

/-- SET_TIMING. -/
def execSetTiming (s : State) : Host.Outcome State Fault Refusal := .next s.serveSetTiming

end Sys2Proof.Machine
end

