-- ==== Sys2Proof/Machine/Queries.lean ====
section
/-! DEFINITION. The queries of chapter 11: STATUS, QUERY_TRUNK, QUERY_FAULTS, READ_STORE and QUERY_INDEX, with
the response layouts of sections 11.8.4 to 11.8.6. A query changes nothing but the channel. Where an item is
absent and the spec gives only a clear presence mark, the bits of the item are a free value (log 7). -/

namespace Sys2Proof.Machine

/-- A number as a 16-bit word. -/
def numberWord (n : Nat) : Word := BitVec.ofNat 16 n

/-- A field of a word: a number shifted to a bit position. -/
def fieldAt (n position : Nat) : Word := BitVec.ofNat 16 (n * 2 ^ position)

/-- The free bits that word `place` of a response holds for absent items, within a mask. -/
def State.absentWord (s : State) (place : Nat) (bits : Word) : Word := Config.absentBits s.draws place &&& bits

/-! ## STATUS (R202) -/

/-- The sync state codes of section 11.8.4. -/
def SyncState.code : SyncState → Nat
  | .search => 0 | .locked => 1 | .flywheel => 2 | .adrift => 3 | .stopped => 4

/-- The image state codes of section 11.8.4. -/
def ImageState.code : ImageState → Nat
  | .ready => 0 | .loading => 1 | .programming _ _ => 2 | .erasing => 3

/-- The 13 words of STATUS (R202, section 11.8.4). -/
def State.statusWords (s : State) : List Word :=
  [fieldAt s.timing.sync.code 0 ||| flagBit s.inHold 8 ||| flagBit s.alertLine 9
      ||| fieldAt s.image.state.code 12,
   s.timing.multiframe,
   BitVec.ofInt 16 s.timing.trim,
   fieldAt s.timing.soakMantissa 0 ||| fieldAt s.timing.soakExponent 8,
   fieldAt s.timing.beaconPeriod 0 ||| fieldAt s.timing.silenceLimit 8,
   (s.link.learnedPeer.getD 0).setWidth 16 ||| flagBit s.peerHeard 8 ||| flagBit s.linkDisabled 9
      ||| fieldAt s.announcedCount 12,
   numberWord s.freeCount,
   numberWord s.timing.silenceCountdown,
   s.link.alarmSet.extractLsb' 0 16, s.link.alarmSet.extractLsb' 16 16,
   s.link.alarmSet.extractLsb' 32 16, s.link.alarmSet.extractLsb' 48 16,
   s.straps.win ++ s.straps.baud ++ s.straps.site]

/-- STATUS. -/
def State.serveStatus (s : State) : State :=
  s.serve .status (fun target _ => deviceCommand (fun s => (s, .done, s.statusWords)) target)

/-- STATUS. -/
def execStatus (s : State) : Host.Outcome State Fault Refusal := .next s.serveStatus

/-! ## QUERY_TRUNK (R203) -/

/-- The lock codes of section 11.8.5. -/
def Lock.code : Lock → Nat
  | .unlocked => 0 | .locked => 1 | .pinned => 2

/-- The undo target codes of section 11.8.5. -/
def undoCode : Option UndoTarget → Nat
  | none => 0 | some .bridged => 1 | some .bound => 2

/-- The group list in nibbles, ascending, Fh in the unused places (section 11.8.5). -/
def groupsWord (gs : List (Fin 7)) : Word :=
  let nibble (i : Nat) : Nat := match gs[i]? with
    | some g => g.val
    | none => 15
  fieldAt (nibble 0) 0 ||| fieldAt (nibble 1) 4 ||| fieldAt (nibble 2) 8 ||| fieldAt (nibble 3) 12

/-- Whether a sweep is in SCAN mode (R77). -/
def Sweep.scanning (sw : Sweep) : Bool :=
  match sw.cursor with
  | .scan _ _ => true
  | _ => false

/-- Whether a sweep's mode is present (R77). -/
def Sweep.modePresent (sw : Sweep) : Bool :=
  match sw.cursor with
  | .scan _ _ | .index _ => true
  | _ => false

/-- A binding's item, or a given word when the record is not bound. -/
def TrunkRecord.bound (r : TrunkRecord) (item : Binding → Word) (absent : Word) : Word :=
  match r.binding with
  | some b => item b
  | none => absent

/-- Whether a flag of the binding is yes. -/
def TrunkRecord.boundFlag (r : TrunkRecord) (flag : Binding → Bool) : Bool :=
  match r.binding with
  | some b => flag b
  | none => false

/-- Word 1 of QUERY_TRUNK (section 11.8.5). -/
def TrunkRecord.flagsWord (r : TrunkRecord) : Word :=
  r.phase.code.setWidth 16 ||| fieldAt r.lock.code 4 ||| flagBit (r.boundFlag Binding.prepared) 6
    ||| flagBit r.commit 7 ||| flagBit (r.boundFlag Binding.fibreAlarm) 8 ||| flagBit r.indexLost 9
    ||| flagBit r.lingering 10 ||| flagBit r.autoLead.isSome 11 ||| flagBit r.rollRequest.isSome 12
    ||| flagBit r.releaseRequest 13 ||| fieldAt (undoCode r.undo) 14

/-- Whether a trunk's sweep is the executing one (R79). -/
def State.executesFor (s : State) (p : Port) : Bool :=
  match s.executing with
  | some e => e.trunk = p
  | none => false

/-- A trunk's sweep as it stands at this unit boundary: the executing sweep has begun, or switched to SCAN mode, at
it (R77, R84, R94). -/
def State.sweepNow (s : State) (p : Port) : Option Sweep :=
  (s.sweepOf p).map (fun sw => if s.executesFor p then s.begun sw else sw)

/-- Word 13 of QUERY_TRUNK: the sweep and the presence marks (section 11.8.5). -/
def State.sweepWord (s : State) (p : Port) : Word :=
  let r := s.trunk p
  let sweepPart := match s.sweepNow p with
    | none => 0
    | some sw =>
      sw.kind.code.setWidth 16 ||| flagBit (s.executesFor p) 3
        ||| flagBit sw.scanning 4 ||| flagBit sw.modePresent 5
  sweepPart ||| flagBit r.rollStart.isSome 8 ||| flagBit r.epoch.isSome 9 ||| flagBit r.soak.isSome 10
    ||| flagBit r.binding.isSome 11

/-- Word 15 of QUERY_TRUNK: the peer view entry (section 11.8.5). The peer phase of an entry that is not
present is a free value (log 7). -/
def State.viewWord (s : State) (p : Port) : Word :=
  match s.view p with
  | none => s.absentWord 15 0x000F
  | some v =>
    v.phase.code.setWidth 16 ||| flagBit v.commit 4 ||| flagBit v.alarm 5 ||| flagBit v.peerReleased 6
      ||| flagBit s.peerHeard 7 ||| flagBit true 8 ||| flagBit v.digest.isSome 9 ||| flagBit v.heardAt.isSome 10

/-- The 17 words of QUERY_TRUNK (R203, section 11.8.5). -/
def State.trunkWords (s : State) (p : Port) : List Word :=
  let r := s.trunk p
  [r.flagsWord,
   r.bound (fun b => numberWord (FibrePort.number b.fibre)) 0,
   r.bound Binding.circuit (s.absentWord 3 0xFFFF),
   r.bound (fun b => numberWord b.digest) 0,
   groupsWord r.groups,
   numberWord (r.rollRequest.getD 0),
   numberWord (r.autoLead.getD 0),
   r.epoch.getD (s.absentWord 8 0xFFFF),
   r.rollStart.getD (s.absentWord 9 0xFFFF),
   (match r.soak with
    | some n => numberWord n
    | none => s.absentWord 10 0xFFFF),
   (match r.soak with
    | some n => numberWord (n / 65536) &&& 0x007F
    | none => s.absentWord 11 0x007F),
   numberWord (s.listenerCount p),
   s.sweepWord p,
   (match s.sweepOf p with
    | some sw => numberWord sw.unitsDone
    | none => 0),
   s.viewWord p,
   (match (s.view p).bind PeerView.digest with
    | some d => d
    | none => s.absentWord 16 0xFFFF),
   (match (s.view p).bind PeerView.heardAt with
    | some m => m
    | none => s.absentWord 17 0xFFFF)]

/-- QUERY_TRUNK. -/
def State.serveQueryTrunk (s : State) : State :=
  s.serve .queryTrunk (fun target _ => copperCommand (fun p s => (s.drawn, .done, s.trunkWords p)) target)

/-- QUERY_TRUNK. -/
def execQueryTrunk (s : State) : Host.Outcome State Fault Refusal := .next s.serveQueryTrunk

/-! ## QUERY_FAULTS (R204) -/

/-- A trunk in bits 8–13 with its presence in bit 14; free bits where it is absent (section 11.8.6, log 7). -/
def State.trunkField (s : State) (place : Nat) : Option Port → Word
  | some p => fieldAt p.val 8 ||| flagBit true 14
  | none => s.absentWord place 0x3F00

/-- The two words of a source (R204, section 11.8.6). -/
def State.sourceWords (s : State) (src : FaultSource) : List Word :=
  let f := s.source src
  [fieldAt f.count 0 ||| s.trunkField (2 * src.number - 1) f.lastTrunk ||| flagBit f.sticky 15,
   f.cls.code.setWidth 16 ||| flagBit f.mask 2]

/-- Words 33 and 34 of QUERY_FAULTS: the first-fault record (section 11.8.6). -/
def State.firstFaultWords (s : State) : List Word :=
  match s.faults.first with
  | some ff => [fieldAt ff.source.number 0 ||| s.trunkField 33 ff.trunk, ff.multiframe]
  | none => [s.trunkField 33 none, s.absentWord 34 0xFFFF]

/-- The 34 words of QUERY_FAULTS (R204). -/
def State.faultWords (s : State) : List Word := FaultSource.all.flatMap s.sourceWords ++ s.firstFaultWords

/-- QUERY_FAULTS. -/
def State.serveQueryFaults (s : State) : State :=
  s.serve .queryFaults (fun target _ => deviceCommand (fun s => (s.drawn, .done, s.faultWords)) target)

/-- QUERY_FAULTS. -/
def execQueryFaults (s : State) : Host.Outcome State Fault Refusal := .next s.serveQueryFaults

/-! ## QUERY_INDEX (R206) -/

/-- The address words of a talker list: the first 64 listeners, oldest first, the more-flag in the 64th when
the list holds more (R206). -/
def indexWords (l : List Link) : List Word :=
  let addresses := (l.take 64).map (fun k => k.listener.setWidth 16)
  if 64 < l.length then
    addresses.take 63 ++ (addresses.drop 63).map (fun w => w ||| flagBit true 15)
  else addresses

/-- QUERY_INDEX of record `p` with its slot parameter (R206). -/
def queryIndex (slot : Nat) (p : Port) (s : State) : Answer :=
  if h : slot < 32 then (s, .done, indexWords (s.talkerList { port := p, slot := ⟨slot, h⟩ }))
  else (s, .badParam, [])

/-- QUERY_INDEX. -/
def State.serveQueryIndex (s : State) : State :=
  s.serve .queryIndex (fun target params => copperCommand (queryIndex (parameter params 0).toNat) target)

/-- QUERY_INDEX. -/
def execQueryIndex (s : State) : Host.Outcome State Fault Refusal := .next s.serveQueryIndex

/-! ## READ_STORE (R54, R205) -/

/-- The parameter of READ_STORE joins the partial command, and the access waits at the arbiter; READY stays
withheld until it is made (R54). -/
def State.requestRaw (s : State) (w : Word) : State :=
  match s.channel.state with
  | .collecting command taken required =>
    { s with channel := { s.channel with state := .collecting command (taken ++ [w]) required },
             arbiter := { s.arbiter with waiting := some (.raw (w.extractLsb' 0 12)) } }
  | _ => s

/-- READ_STORE: its target, then its parameter is tested; a refusal answers at once, otherwise one access is
requested (R54, R205). -/
def State.serveReadStore (s : State) : State :=
  match s.channelAct with
  | some (.execute .readStore target params) =>
    match targetOf target with
    | .noRecord =>
      if 4095 < (parameter params 0).toNat then (State.respond (s, .badParam, [])).resume
      else (s.requestRaw (parameter params 0)).resume
    | _ => (State.respond (s, .badTarget, [])).resume
  | _ => s

/-- READ_STORE. -/
def execReadStore (s : State) : Host.Outcome State Fault Refusal := .next s.serveReadStore

end Sys2Proof.Machine
end

