-- ==== Sys2Proof/Machine/Evaluation.lean ====
section
/-! DEFINITION. The multiframe boundary: MFS_MISS, ADRIFT_ENTRY, MULTIFRAME_BOUNDARY with its timer steps, and
the steps of the boundary evaluation (chapter 7). Each of these steps occurs when the event is due
(`State.due`), which the step before it in the same event of the hardware makes it; at any other moment it
does not occur and the state stays as it is (log 1, log 2). -/

namespace Sys2Proof.Machine

/-- A step of the present event: it occurs when the event is due, and takes it (log 1). -/
def State.onDue (s : State) (d : Due) (effect : State → State) : State :=
  if s.due.contains d then (effect (s.takeDue d)).resume else s

/-- A step of the boundary evaluation: it occurs when its turn in the evaluation's order has come (R125, log 10). -/
def State.onStep (s : State) (d : Due) (effect : State → State) : State :=
  if s.nextStep = some d then (effect (s.takeDue d)).resume else s

/-- A step of the evaluation that changes a phase: it takes effect when the unit in progress ends (R125). -/
def State.onPhaseStep (s : State) (d : Due) (effect : State → State) : State :=
  s.onStep d (fun t => t.atUnitEnd effect)

/-! ## MFS_MISS and ADRIFT_ENTRY (R102 to R104) -/

/-- The state with a sync state. -/
def State.setSync (s : State) (y : SyncState) : State := { s with timing := { s.timing with sync := y } }

/-- MFS_MISS: an expected pulse without MFS enters FLYWHEEL or stays there (R102, R103). -/
def State.takeMfsMiss (s : State) : State := s.onDue .mfsMiss (fun t => t.setSync .flywheel)

/-- MFS_MISS. -/
def execMfsMiss (s : State) : Host.Outcome State Fault Refusal := .next s.takeMfsMiss

/-- ADRIFT_ENTRY: the sync state becomes ADRIFT and SYNC_LOSS is raised (R101, R103, R104), before the boundary of the same
pulse unless a row names that boundary first (log 15). -/
def State.takeAdriftEntry (s : State) : State :=
  s.onDue .adriftEntry (fun t => (t.setSync .adrift).raise .syncLoss none)

/-- ADRIFT_ENTRY. -/
def execAdriftEntry (s : State) : Host.Outcome State Fault Refusal := .next s.takeAdriftEntry

/-! ## Epochs and gates (R106, R126, R127) -/

/-- The lateness d of an epoch: (M − E) mod 65536 (R106). -/
def lateness (m epoch : Word) : Nat := (m - epoch).toNat

/-- Whether an epoch is reached (R106). -/
def epochReached (m epoch : Word) : Bool := lateness m epoch < 32768

/-- Whether record `p` holds an epoch that is reached (R106). -/
def State.epochReached (s : State) (p : Port) : Bool :=
  match (s.trunk p).epoch with
  | some e => Machine.epochReached s.timing.multiframe e
  | none => false

/-- The roll gate of record `p` (R126). -/
def State.rollGate (s : State) (p : Port) : Bool :=
  match (s.trunk p).binding, s.view p with
  | some b, some v =>
    (s.phase p = .bridged || s.phase p = .armed) && !b.fibreAlarm && s.peerHeard && v.phase.inTransmitSet
      && !v.alarm && v.digest.map BitVec.toNat = some b.digest && !s.inHold
  | _, _ => false

/-- The peer phases that open the release gate (R127). -/
def PeerView.released (v : PeerView) : Bool :=
  match v.phase with
  | .listed .rolled => v.commit
  | .listed .releasing | .listed .migrated => true
  | _ => false

/-- The release gate of record `p` (R127). -/
def State.releaseGate (s : State) (p : Port) : Bool :=
  match s.view p with
  | some v => (s.trunk p).commit && s.peerHeard && v.released && !s.inHold
  | none => false

/-- Whether the boundary evaluation takes steps other than a commit for record `p`: the device is not in hold
and the record is UNLOCKED (R28, R125). -/
def State.evaluated (s : State) (p : Port) : Bool := !s.inHold && (s.trunk p).lock = .unlocked

/-! ## What the evaluation takes for a record -/

/-- An auto START qualifies (R128). -/
def State.wantsAutoStart (s : State) (p : Port) : Bool :=
  s.evaluated p && (s.trunk p).preparedBound && (s.trunk p).autoLead.isSome

/-- An auto BRIDGE is taken (R128). -/
def State.wantsAutoBridge (s : State) (p : Port) : Bool :=
  s.evaluated p && s.phase p = .tracked && (s.trunk p).autoLead.isSome && !s.hasSweep p

/-- A BRIDGED record is armed (R129). -/
def State.wantsArming (s : State) (p : Port) : Bool :=
  s.evaluated p && s.phase p = .bridged && !s.hasSweep p
    && ((s.trunk p).rollRequest.isSome || (s.trunk p).autoLead.isSome) && s.rollGate p

/-- An ARMED record returns to BRIDGED (R130). -/
def State.wantsReturn (s : State) (p : Port) : Bool :=
  s.evaluated p && s.phase p = .armed && s.epochReached p && !s.rollGate p

/-- An ARMED record may start its roll (R131). -/
def State.mayRoll (s : State) (p : Port) : Bool :=
  s.evaluated p && s.phase p = .armed && s.epochReached p && s.rollGate p

/-- The record that starts its roll: the first in armed-list order, when no class A sweep is executing or
queued (R131). -/
def State.rollCandidate (s : State) : Option Port :=
  if s.classAQueued then none else s.armedList.find? s.mayRoll

/-- A committed ROLLED record is released (R135). -/
def State.wantsRelease (s : State) (p : Port) : Bool :=
  s.evaluated p && s.phase p = .rolled && (s.trunk p).commit
    && ((s.trunk p).releaseRequest || (s.trunk p).autoLead.isSome) && s.releaseGate p

/-- Whether the soak of record `p` expires at the next step (R109, R134). -/
def State.soakEnding (s : State) (p : Port) : Bool := s.phase p = .rolled && (s.trunk p).soak = some 1

/-! ## MULTIFRAME_BOUNDARY (R99, R109 to R111, R125, R164, R173) -/

/-- The soak step of record `p` (R109). -/
def State.stepSoak (s : State) (p : Port) : State :=
  if s.phase p = .rolled then
    s.setTrunk p { s.trunk p with soak := (s.trunk p).soak.map (fun n => n - 1) }
  else s

/-- M and the countdowns of the timing unit step (R99, R110, R111). -/
def Timing.stepped (t : Timing) : Timing :=
  { t with
    multiframe := t.multiframe + 1, beaconCountdown := t.beaconCountdown - 1,
    silenceCountdown := t.silenceCountdown - 1 }

/-- The peer link's own steps at a boundary: change pending makes change due, and the gap count rises within
a frame (R164, R173). -/
def PeerLink.stepped (l : PeerLink) : PeerLink :=
  { l with
    changeDue := l.changeDue || l.changePending, changePending := false,
    gap := if l.receiver = .hunt then l.gap else l.gap + 1 }

/-- All timers stepped (R99). -/
def State.stepTimers (s : State) : State :=
  allPorts.foldl State.stepSoak { s with timing := s.timing.stepped, link := s.link.stepped }

/-- A due event when a condition holds. -/
def dueIf (c : Bool) (d : Due) : List Due := if c then [d] else []

/-- The lead of an arming: the roll request's when a request is present, else the auto lead (R129). -/
def TrunkRecord.lead (r : TrunkRecord) : Nat := r.rollRequest.getD (r.autoLead.getD 0)

/-- The steps of the boundary evaluation, decided as the boundary and its timer steps leave the part (R125, R139):
the returns of ARMED records, then the steps of the records in ascending port order, then the roll start (R115,
R128, R131). A roll start queues the only class A sweep, so its place among the class B sweeps of the other steps
does not matter. -/
def State.evaluation (s : State) : List Due :=
  (allPorts.filter s.wantsReturn).map Due.returnToBridged
    ++ allPorts.flatMap (fun p =>
        dueIf (s.wantsAutoStart p) (.autoStart p) ++ dueIf (s.wantsAutoBridge p) (.autoBridge p)
          ++ dueIf (s.wantsArming p) (.arming p (s.trunk p).lead)
          ++ dueIf (s.wantsRelease p) (.releaseAtBoundary p))
    ++ (s.rollCandidate.map Due.rollStart).toList

/-- The events of a boundary, from the state before its steps and the state after them (log 10). -/
def boundaryEvents (before after : State) : List Due :=
  dueIf (before.timing.silenceCountdown = 1) .peerSilent
    ++ (allPorts.filter before.soakEnding).map Due.soakExpiry
    ++ after.evaluation
    ++ dueIf (after.link.receiver != .hunt && 3 ≤ after.link.gap) .gapExpiry
    ++ dueIf (before.timing.beaconCountdown = 1) .beaconCountdownExpiry
    ++ dueIf ((before.timing.beaconCountdown = 0 && after.timing.beaconCountdown = 0) || after.link.changeDue)
        .beaconTransmit

/-- MULTIFRAME_BOUNDARY: M increments, the timers step, change due is set, and the events of the boundary,
the boundary evaluation among them, fall due (R99, R125). Taken by name it may come before a miss or an entry to ADRIFT
of the same pulse, whose SYNC_LOSS then reads M after the increment (log 15). -/
def State.takeBoundary (s : State) : State :=
  s.onDue .boundary (fun t =>
    let after := t.stepTimers
    { after with due := after.due ++ boundaryEvents t after })

/-- MULTIFRAME_BOUNDARY. -/
def execMultiframeBoundary (s : State) : Host.Outcome State Fault Refusal := .next s.takeBoundary

/-! ## SOAK_EXPIRY (R134)

Each step below was decided when the boundary was evaluated. When it is taken, only the phase that it leaves is
tested, which a fault of the unit in progress may have changed meanwhile (log 10). -/

/-- The commit of record `p` (R134). -/
def State.commitRecord (s : State) (p : Port) : State :=
  match s.phase p with
  | .rolled => s.changeTrunk p { s.trunk p with commit := true }
  | _ => s

/-- SOAK_EXPIRY: the commit flag becomes yes, at the boundary itself (R134). -/
def State.takeSoakExpiry (p : Port) (s : State) : State := s.onStep (.soakExpiry p) (fun u => u.commitRecord p)

/-- SOAK_EXPIRY. -/
def execSoakExpiry (p : Port) (s : State) : Host.Outcome State Fault Refusal := .next (s.takeSoakExpiry p)

/-! ## AUTO_START and AUTO_BRIDGE (R128) -/

/-- AUTO_START: a prepared BOUND auto record is started while the announced count is below 8 (R128). -/
def State.takeAutoStart (p : Port) (s : State) : State :=
  s.onPhaseStep (.autoStart p) (fun u =>
    if (u.trunk p).preparedBound && u.announcedCount < 8 then u.startRecord p else u)

/-- AUTO_START. -/
def execAutoStart (p : Port) (s : State) : Host.Outcome State Fault Refusal := .next (s.takeAutoStart p)

/-- AUTO_BRIDGE: a TRACKED auto record with no sweep is bridged (R128). -/
def State.takeAutoBridge (p : Port) (s : State) : State :=
  s.onPhaseStep (.autoBridge p) (fun u =>
    if u.phase p = .tracked && !u.hasSweep p then u.bridgeRecord p else u)

/-- AUTO_BRIDGE. -/
def execAutoBridge (p : Port) (s : State) : Host.Outcome State Fault Refusal := .next (s.takeAutoBridge p)

/-! ## ARMING (R129) and RETURN_TO_BRIDGED (R130) -/

/-- Record `p` enters ARMED with its epoch and joins the tail of the armed list (R129, R107, R115). -/
def State.armRecord (s : State) (p : Port) (lead : Nat) : State :=
  let s1 := s.changeTrunk p
    { s.trunk p with phase := .armed, epoch := some (s.timing.multiframe + BitVec.ofNat 16 lead) }
  { s1 with armedList := s1.armedList ++ [p] }

/-- ARMING, with the lead that the boundary found (R129). -/
def State.takeArming (p : Port) (s : State) : State :=
  match s.nextStep with
  | some (.arming q lead) =>
    if q = p then
      s.onPhaseStep (.arming p lead) (fun u =>
        if u.phase p = .bridged && !u.hasSweep p then u.armRecord p lead else u)
    else s
  | _ => s

/-- ARMING. -/
def execArming (p : Port) (s : State) : Host.Outcome State Fault Refusal := .next (s.takeArming p)

/-- RETURN_TO_BRIDGED (R130). -/
def State.takeReturn (p : Port) (s : State) : State :=
  s.onPhaseStep (.returnToBridged p) (fun u => if u.phase p = .armed then u.returnFromArmed p else u)

/-- RETURN_TO_BRIDGED. -/
def execReturnToBridged (p : Port) (s : State) : Host.Outcome State Fault Refusal := .next (s.takeReturn p)

/-! ## ROLL_START (R131, R132) -/

/-- Record `p` starts its roll (R132). -/
def State.rollRecord (s : State) (p : Port) : State :=
  ((s.changeTrunk p
    { s.trunk p with
      phase := .rolling, rollRequest := none, rollStart := some s.timing.multiframe,
      epoch := none }).leaveArmedList p).queueSweep .roll p

/-- Whether the roll start of record `p` is late: its lateness is above 0 (R106, R132). -/
def State.rollsLate (s : State) (p : Port) : Bool :=
  match (s.trunk p).epoch with
  | some e => 0 < lateness s.timing.multiframe e
  | none => false

/-- The roll start of record `p`: ROLLING, and ROLL_LATE raised for a late one (R132). -/
def State.startRoll (s : State) (p : Port) : State :=
  if s.phase p = .armed then
    if s.rollsLate p then (s.rollRecord p).raise .rollLate (some p) else s.rollRecord p
  else s

/-- ROLL_START of the record that the boundary chose (R131, R132). -/
def State.takeRollStart (s : State) : State :=
  match s.nextStep with
  | some (.rollStart p) => s.onPhaseStep (.rollStart p) (fun u => u.startRoll p)
  | _ => s

/-- ROLL_START. -/
def execRollStart (s : State) : Host.Outcome State Fault Refusal := .next s.takeRollStart

/-! ## RELEASE_AT_BOUNDARY (R135) -/

/-- Record `p` enters RELEASING (R135). -/
def State.releaseRecord (s : State) (p : Port) : State :=
  (s.changeTrunk p
    { s.trunk p with phase := .releasing, releaseRequest := false, soak := none }).queueSweep .release p

/-- RELEASE_AT_BOUNDARY (R135). -/
def State.takeRelease (p : Port) (s : State) : State :=
  s.onPhaseStep (.releaseAtBoundary p) (fun u =>
    if u.phase p = .rolled && (u.trunk p).commit then u.releaseRecord p else u)

/-- RELEASE_AT_BOUNDARY. -/
def execReleaseAtBoundary (p : Port) (s : State) : Host.Outcome State Fault Refusal := .next (s.takeRelease p)

end Sys2Proof.Machine
end

