-- ==== Sys2Proof/Machine/LinkSteps.lean ====
section
/-! DEFINITION. The peer link (chapter 9) and the fibre alarms (section 8.7): the receiver, the discard and
re-taking of frames, BEACON_FRAME, ALARM_FRAME, FRAME_IGNORED, FRAME_DISCARD, GAP_EXPIRY, PEER_SILENT,
BEACON_COUNTDOWN_EXPIRY and BEACON_TRANSMIT. -/

namespace Sys2Proof.Machine

/-! ## The receiver (R162, R163) -/

/-- How a whole frame is dispatched by its kind; every frame is dropped while the link is disabled (R165). -/
def frameEvent (disabled : Bool) (kind : Byte) (payload : List Byte) : Due :=
  if disabled then .frameIgnored
  else if kind = beaconKind then .beaconFrame payload
  else if kind = alarmKind then .alarmFrame payload
  else .frameIgnored

/-- The frame that the held bytes make with their check byte: opening byte, kind, length, payload, check. -/
def heldFrame (disabled : Bool) (held : List Byte) : Due :=
  frameEvent disabled (held.getD 1 0) ((held.drop 3).dropLast)

/-- A byte held in the frame in progress; it sets the gap count to 0 (R162). -/
def PeerLink.hold (l : PeerLink) (b : Byte) (next : ReceiverState) : PeerLink :=
  { l with held := l.held ++ [b], gap := 0, receiver := next }

/-- The receiver takes a byte (R162). The second part is the event that the byte makes due: a discard, or the
dispatch of a whole frame. A bad length byte and a bad check byte are held, so that they are re-taken (log
11). -/
def PeerLink.takeByte (l : PeerLink) (disabled : Bool) (b : Byte) : PeerLink × Option Due :=
  match l.receiver with
  | .hunt => if b = openingByte then ({ l with held := [b], gap := 0, receiver := .kind }, none) else (l, none)
  | .kind => (l.hold b .length, none)
  | .length =>
    if b = 0 then (l.hold b .check, none)
    else if b.toNat ≤ 60 then (l.hold b .payload, none)
    else (l.hold b .length, some .frameDiscard)
  | .payload =>
    let l1 := l.hold b .payload
    if l1.held.length = 3 + (l1.held.getD 2 0).toNat then ({ l1 with receiver := .check }, none) else (l1, none)
  | .check =>
    let l1 := l.hold b .check
    if checkGood (l1.held.drop 1) then
      ({ l1 with receiver := .hunt, held := [], gap := 0 }, some (heldFrame disabled l1.held))
    else (l1, some .frameDiscard)

/-- The bytes still to be re-taken are taken in order, up to the first that makes an event due (R163). -/
def PeerLink.retake (disabled : Bool) : List Byte → PeerLink → PeerLink × Option Due
  | [], l => ({ l with retaking := [] }, none)
  | b :: rest, l =>
    match l.takeByte disabled b with
    | (l1, none) => l1.retake disabled rest
    | (l1, some d) => ({ l1 with retaking := rest }, some d)

/-- The state with the peer link replaced and, if there is one, the event of the receiver made due before all
others: the dispatch belongs to the same event (R163, R165). -/
def State.received (s : State) (r : PeerLink × Option Due) : State :=
  { s with link := r.1, due := r.2.toList ++ s.due }

/-- The re-taking goes on after a frame among the re-taken bytes (R163). -/
def State.goOnRetaking (s : State) : State :=
  s.received (s.link.retake s.linkDisabled s.link.retaking)

/-- The frame in progress is discarded: LINK_FRAME is raised once, unless the link is disabled, the receiver
returns to HUNT, and the held bytes after the opening one are re-taken (R163, R165). -/
def State.discardFrame (s : State) : State :=
  let s1 : State :=
    { s with link :=
      { s.link with
        receiver := .hunt, held := [], gap := 0, retaking := s.link.held.drop 1 ++ s.link.retaking } }
  let s2 := if s.linkDisabled then s1 else s1.raise .linkFrame none
  s2.goOnRetaking

/-! ## FRAME_DISCARD, GAP_EXPIRY and FRAME_IGNORED (R163 to R165) -/

/-- FRAME_DISCARD: a frame with a bad length, a bad check or a character in error (R163). -/
def State.takeFrameDiscard (s : State) : State := s.onDue .frameDiscard State.discardFrame

/-- FRAME_DISCARD. -/
def execFrameDiscard (s : State) : Host.Outcome State Fault Refusal := .next s.takeFrameDiscard

/-- GAP_EXPIRY: the gap count reached 3 at a boundary (R164). A frame that it recovers is met by a boundary that
has made its transition to silence (R111, R172) and its evaluation (R157), so it follows both. -/
def State.takeGapExpiry (s : State) : State :=
  if s.gapWaits then s else s.onDue .gapExpiry State.discardFrame

/-- GAP_EXPIRY. -/
def execGapExpiry (s : State) : Host.Outcome State Fault Refusal := .next s.takeGapExpiry

/-- FRAME_IGNORED: a whole frame is dropped without fault (R165). -/
def State.takeFrameIgnored (s : State) : State := s.onDue .frameIgnored State.goOnRetaking

/-- FRAME_IGNORED. -/
def execFrameIgnored (s : State) : Host.Outcome State Fault Refusal := .next s.takeFrameIgnored

/-! ## BEACON_FRAME (R165, R167, R168, R170, R171) -/

/-- A view after an accepted beacon: the usable record for its circuit, or ABSENT (R170). -/
def PeerView.updated (v : PeerView) (records : List BeaconRecord) (m : Word) : PeerView :=
  match records.find? (fun r => r.circuit = v.circuit) with
  | some r =>
    { v with
      phase := .listed r.phase, commit := r.commit, alarm := r.alarm, digest := some r.digest,
      heardAt := some m,
      peerReleased := v.peerReleased || r.phase = .releasing || r.phase = .migrated }
  | none => { v with phase := .absent, heardAt := some m }

/-- Whether a view lists a phase and a digest unequal to the record's (R171). -/
def PeerView.mismatches (v : PeerView) (b : Binding) : Bool :=
  match v.phase with
  | .listed _ => v.digest.map BitVec.toNat != some b.digest
  | _ => false

/-- The digest edge of R171 between a view and its update. -/
def mismatchEdge (before after : PeerView) (b : Binding) : Bool :=
  after.mismatches b && !before.mismatches b

/-- The withdrawal edge of R171 between a view and its update, for a record in this phase. -/
def withdrawEdge (before after : PeerView) (phase : Phase) : Bool :=
  before.phase.inTransmitSet && !after.phase.inTransmitSet
    && (phase = .armed || phase = .rolling || phase = .rolled)

/-- The entry of record `p` updated, and its edges tested before the next entry (R170, R171). The withdrawal
edge reads the record's phase as it stood when the beacon was accepted. -/
def State.updateView (accepted : State) (records : List BeaconRecord) (s : State) (p : Port) : State :=
  match s.view p with
  | none => s
  | some v =>
    let v1 := v.updated records s.timing.multiframe
    let s1 := s.setView p (some v1)
    let mismatch := match (s.trunk p).binding with
      | some b => mismatchEdge v v1 b
      | none => false
    let s2 := if mismatch then s1.raise .peerMismatch (some p) else s1
    if withdrawEdge v v1 (accepted.phase p) then s2.raise .peerWithdraw (some p) else s2

/-- Whether a beacon of good form is accepted (R168). -/
def State.acceptsBeacon (s : State) (fromSite toSite : Byte) : Bool :=
  1 ≤ fromSite.toNat && fromSite.toNat ≤ 254 && fromSite != s.straps.site
    && (toSite = s.straps.site || toSite = 0)
    && (match s.link.learnedPeer with
        | none => true
        | some l => l = fromSite)

/-- A beacon accepted: the peer is learned, the silence countdown reloaded, each record of an unusable phase
code raises LINK_FRAME, and every entry is updated in ascending copper-port order (R167, R168, R170). -/
def State.acceptBeacon (s : State) (fromSite : Byte) (records : List (Option BeaconRecord)) : State :=
  let s1 : State :=
    { s with
      link := { s.link with learnedPeer := some fromSite },
      timing := { s.timing with silenceCountdown := s.timing.silenceLimit * s.timing.beaconPeriod } }
  let s2 := records.foldl (fun t r => if r.isNone then t.raise .linkFrame none else t) s1
  allPorts.foldl (s1.updateView (records.filterMap id)) s2

/-- What a whole BEACON frame does: rejected for its form with LINK_FRAME, discarded by site identity with
PEER_IDENTITY, or accepted (R165, R167, R168). -/
def State.beaconReceived (s : State) (payload : List Byte) : State :=
  match parseBeacon payload with
  | none => s.raise .linkFrame none
  | some (fromSite, toSite, records) =>
    if s.acceptsBeacon fromSite toSite then s.acceptBeacon fromSite records
    else s.raise .peerIdentity none

/-- The payload of the whole BEACON frame that is due. -/
def State.dueBeacon (s : State) : Option (List Byte) :=
  s.due.findSome? (fun d => match d with
    | .beaconFrame payload => some payload
    | _ => none)

/-- BEACON_FRAME. -/
def State.takeBeaconFrame (s : State) : State :=
  match s.dueBeacon with
  | some payload =>
    s.onDue (.beaconFrame payload)
      (fun t => (t.atUnitEnd (fun u => u.beaconReceived payload)).goOnRetaking)
  | none => s

/-- BEACON_FRAME. -/
def execBeaconFrame (s : State) : Host.Outcome State Fault Refusal := .next s.takeBeaconFrame

/-! ## ALARM_FRAME (R155, R176) -/

/-- The fibre-alarm flag of record `p` set or cleared; a change in an announced record is reported (R116,
R155). -/
def State.setFibreAlarm (s : State) (p : Port) (b : Binding) (alarm : Bool) : State :=
  let s1 := s.setTrunk p { s.trunk p with binding := some { b with fibreAlarm := alarm } }
  if s.announced p then s1.reportChange else s1

/-- The fault of an alarm that enters the set for record `p` (R155). -/
def alarmFault (phase : Phase) (commit : Bool) : Option FaultSource :=
  match phase, commit with
  | .armed, _ | .rolling, _ | .rolled, false => some .fibreAlarm
  | .rolled, true | .releasing, _ | .migrated, _ => some .fibreDark
  | _, _ => none

/-- What a change of the alarm set does to record `p` (R155). -/
def State.followAlarm (old new : BitVec 64) (s : State) (p : Port) : State :=
  match (s.trunk p).binding with
  | none => s
  | some b =>
    match old.getLsbD b.fibre.val, new.getLsbD b.fibre.val with
    | false, true =>
      let s1 := s.setFibreAlarm p b true
      (match alarmFault (s1.phase p) (s1.trunk p).commit with
      | some src => s1.raise src (some p)
      | none => s1)
    | true, false => s.setFibreAlarm p b false
    | _, _ => s

/-- What a whole ALARM frame does: rejected for its form with LINK_FRAME, or the set is replaced whole and the
trunk table follows it (R155, R165, R176). -/
def State.alarmReceived (s : State) (payload : List Byte) : State :=
  match parseAlarm payload with
  | none => s.raise .linkFrame none
  | some set =>
    allPorts.foldl (State.followAlarm s.link.alarmSet set) { s with link := { s.link with alarmSet := set } }

/-- The payload of the whole ALARM frame that is due. -/
def State.dueAlarm (s : State) : Option (List Byte) :=
  s.due.findSome? (fun d => match d with
    | .alarmFrame payload => some payload
    | _ => none)

/-- ALARM_FRAME. -/
def State.takeAlarmFrame (s : State) : State :=
  match s.dueAlarm with
  | some payload =>
    s.onDue (.alarmFrame payload)
      (fun t => (t.atUnitEnd (fun u => u.alarmReceived payload)).goOnRetaking)
  | none => s

/-- ALARM_FRAME. -/
def execAlarmFrame (s : State) : Host.Outcome State Fault Refusal := .next s.takeAlarmFrame

/-! ## PEER_SILENT (R172) -/

/-- PEER_SILENT: the learned peer site becomes none and PEER_SILENT is raised; the entries keep their values
and are stale, as the silence countdown is 0 (R111, R172). -/
def State.takePeerSilent (s : State) : State :=
  s.onDue .peerSilent (fun t =>
    ({ t with link := { t.link with learnedPeer := none } } : State).raise .peerSilent none)

/-- PEER_SILENT. -/
def execPeerSilent (s : State) : Host.Outcome State Fault Refusal := .next s.takePeerSilent

/-! ## BEACON_COUNTDOWN_EXPIRY and BEACON_TRANSMIT (R110, R137, R173, R174) -/

/-- BEACON_COUNTDOWN_EXPIRY: the countdown that reached 0 makes a periodic beacon due (R110). -/
def State.takeBeaconExpiry (s : State) : State :=
  s.onDue .beaconCountdownExpiry (fun t =>
    if t.due.contains .beaconTransmit then t else t.addDue .beaconTransmit)

/-- BEACON_COUNTDOWN_EXPIRY. -/
def execBeaconCountdownExpiry (s : State) : Host.Outcome State Fault Refusal := .next s.takeBeaconExpiry

/-- The beacon record of an announced record (R174). -/
def beaconRecordOf (r : TrunkRecord) (b : Binding) : BeaconRecord where
  circuit := b.circuit
  phase   := r.phase
  commit  := r.commit
  alarm   := b.fibreAlarm
  digest  := BitVec.ofNat 16 b.digest

/-- The beacon records of the announced records, in ascending copper-port order (R174). -/
def State.beaconContent (s : State) : List BeaconRecord :=
  s.announcedPorts.filterMap (fun p => (s.trunk p).binding.map (beaconRecordOf (s.trunk p)))

/-- The bytes of the beacon that begins in this state (R161, R174). -/
def State.beaconBytes (s : State) : List Byte :=
  frameBytes beaconKind (beaconPayload s.straps.site (s.link.learnedPeer.getD 0) s.beaconContent)

/-- A lingering record whose peer-released flag is yes stops lingering and leaves the announced set, without a
change pending (R137, R173). -/
def State.endLingering (s : State) (p : Port) : State :=
  match s.phase p, s.view p with
  | .migrated, some v =>
    if (s.trunk p).lingering && v.peerReleased then
      (s.setTrunk p { s.trunk p with lingering := false }).setView p none
    else s
  | _, _ => s

/-- A beacon is due when the countdown is 0 or change due is yes (R173). -/
def State.beaconDue (s : State) : Bool := s.timing.beaconCountdown = 0 || s.link.changeDue

/-- Whether a beacon begins at a boundary: one is due, the transmitter is IDLE and the link enabled (R174). -/
def State.beaconBegins (s : State) : Bool :=
  s.beaconDue && s.link.transmitter.isNone && !s.linkDisabled

/-- A beacon begins: its content is taken, the countdown reloaded, change due cleared, and lingering ended
(R174). -/
def State.beginBeacon (s : State) : State :=
  allPorts.foldl State.endLingering
    { s with
      link := { s.link with transmitter := some s.beaconBytes, changeDue := false },
      timing := { s.timing with beaconCountdown := s.timing.beaconPeriod } }

/-- BEACON_TRANSMIT: a beacon that is due begins at a boundary with the transmitter IDLE and the link enabled;
otherwise it waits for a later boundary (R174). Among the frames that a gap expiry of the same boundary recovers (R163)
it comes where its row is named, else after them (log 32). -/
def State.takeBeaconTransmit (s : State) : State :=
  s.onDue .beaconTransmit (fun t => if t.beaconBegins then t.beginBeacon else t)

/-- BEACON_TRANSMIT. -/
def execBeaconTransmit (s : State) : Host.Outcome State Fault Refusal := .next s.takeBeaconTransmit

end Sys2Proof.Machine
end

