-- ==== Sys2Proof/Machine/Settle.lean ====
section
/-! DEFINITION. The steps that complete a sweep (R86), and settling: an event from outside, or a store unit,
meets the part with every event that was already due taken first, in the part's own order (log 1). -/

namespace Sys2Proof.Machine

/-! ## The completion steps -/

/-- The completion of a sweep of this kind: it occurs when that sweep executes with no unit remaining (R86), and
neither a command whose effects wait for the unit boundary (R41, R85) nor the rest of the present event (R140)
comes before it. -/
def State.takeCompletion (s : State) (kind : SweepKind) : State :=
  let t := s.finishUnit.engine
  match t.completed with
  | some sw =>
    if sw.kind = kind && !s.midEvent && s.channelAct.isNone then (t.complete kind sw.trunk).resume else s
  | none => s

/-- PREPARE_COMPLETION (R24). -/
def execPrepareCompletion (s : State) : Host.Outcome State Fault Refusal := .next (s.takeCompletion .prepare)

/-- CENSUS_COMPLETION (R120). -/
def execCensusCompletion (s : State) : Host.Outcome State Fault Refusal := .next (s.takeCompletion .census)

/-- BRIDGE_COMPLETION (R120). -/
def execBridgeCompletion (s : State) : Host.Outcome State Fault Refusal := .next (s.takeCompletion .bridge)

/-- ROLL_COMPLETION (R133). -/
def execRollCompletion (s : State) : Host.Outcome State Fault Refusal := .next (s.takeCompletion .roll)

/-- UNROLL_COMPLETION (R152). -/
def execUnrollCompletion (s : State) : Host.Outcome State Fault Refusal := .next (s.takeCompletion .unroll)

/-- RELEASE_COMPLETION (R136). -/
def execReleaseCompletion (s : State) : Host.Outcome State Fault Refusal := .next (s.takeCompletion .release)

/-- UNBRIDGE_COMPLETION (R153). -/
def execUnbridgeCompletion (s : State) : Host.Outcome State Fault Refusal := .next (s.takeCompletion .unbridge)

/-! ## Taking what is due -/

/-- The step that a due event is. -/
def State.take (s : State) : Due → State
  | .mfsMiss => s.takeMfsMiss
  | .adriftEntry => s.takeAdriftEntry
  | .boundary => s.takeBoundary
  | .peerSilent => s.takePeerSilent
  | .soakExpiry p => s.takeSoakExpiry p
  | .returnToBridged p => s.takeReturn p
  | .autoStart p => s.takeAutoStart p
  | .autoBridge p => s.takeAutoBridge p
  | .arming p _ => s.takeArming p
  | .releaseAtBoundary p => s.takeRelease p
  | .rollStart _ => s.takeRollStart
  | .gapExpiry => s.takeGapExpiry
  | .beaconCountdownExpiry => s.takeBeaconExpiry
  | .beaconTransmit => s.takeBeaconTransmit
  | .frameDiscard => s.takeFrameDiscard
  | .beaconFrame _ => s.takeBeaconFrame
  | .alarmFrame _ => s.takeAlarmFrame
  | .frameIgnored => s.takeFrameIgnored

/-- A command served by its own step. -/
def State.serveCommand (s : State) : Command → State
  | .status => s.serveStatus
  | .bind => s.serveBind
  | .unbind => s.serveUnbind
  | .groups => s.serveGroups
  | .lock => s.serveLock
  | .unlock => s.serveUnlock
  | .pin => s.servePin
  | .eraseImage => s.serveEraseImage
  | .start => s.serveStart
  | .bridge => s.serveBridge
  | .roll => s.serveRoll
  | .disarm => s.serveDisarm
  | .release => s.serveRelease
  | .fallback => s.serveFallback
  | .abort => s.serveAbort
  | .recensus => s.serveRecensus
  | .auto => s.serveAuto
  | .hold => s.serveHold
  | .clearHold => s.serveClearHold
  | .queryTrunk => s.serveQueryTrunk
  | .queryFaults => s.serveQueryFaults
  | .clearFaults => s.serveClearFaults
  | .setAction => s.serveSetAction
  | .setTiming => s.serveSetTiming
  | .readStore => s.serveReadStore
  | .queryIndex => s.serveQueryIndex
  | .close => s.serveClose

/-- The channel cycle that the port keeps served by its own step (R193, R194, R196). -/
def State.serveAct (s : State) : ChannelAct → State
  | .read => s.serveChannelRead
  | .commandWord _ => s.serveCommandWord
  | .parameterWord _ => s.serveParameterWord
  | .unknown => s.serveUnknown
  | .execute c _ _ => s.serveCommand c

/-- The event that is due and taken next: the first, but a gap expiry after the silence and the evaluation of its
boundary (R125, R157, R172). -/
def State.nextDue (s : State) : Option Due := s.due.find? (fun d => d != .gapExpiry || !s.gapWaits)

/-- One event taken: an event that is due, in their order; then the channel cycle, whose command's effects come
first at a unit boundary (R45); then a completion (R86). -/
def State.settleOne (s : State) : Option State :=
  match s.nextDue, s.channelAct with
  | some d, _ => some (s.take d)
  | none, some act => some (s.serveAct act)
  | none, none => s.completed.map (fun sw => s.takeCompletion sw.kind)

/-- Events that are due taken one after another. -/
def State.settleUpTo : Nat → State → State
  | 0, s => s
  | fuel + 1, s =>
    match s.settleOne with
    | some t => State.settleUpTo fuel t
    | none => s

/-- How many due events one settling takes at most: a boundary makes at most a few for each of the 64
records, and the bytes of one discarded frame at most 63 more. -/
def settleFuel : Nat := 1024

/-- The state with every event that is due taken, and the arbiter's next grant made. -/
def State.settle (s : State) : State := (State.settleUpTo settleFuel s).resume

end Sys2Proof.Machine
end

