-- ==== Sys2Proof/Machine/PortSteps.lean ====
section
/-! DEFINITION. The processor port and the store units (chapter 3): PROCESSOR_CYCLE, the processor units and
the seven kinds of sweep units. A unit step runs the unit in progress when it is of the step's kind; when no
unit is in progress, or the one that is has another kind, what is due is settled first, and the step does not
occur when the arbiter's next grant is another unit (log 2). -/

namespace Sys2Proof.Machine

/-! ## PROCESSOR_CYCLE (R37) -/

/-- The address of a cycle (R37). -/
def cycleAddress : BusCycle → Listed
  | .read a => a
  | .write a _ => a

/-- The processor unit of a store cycle (R38, R39). -/
def cycleUnit : BusCycle → ProcessorUnit
  | .read a => .read a
  | .write a w => .write a w

/-- Whether the control channel is CLOSED (R191). -/
def State.channelClosed (s : State) : Bool :=
  match s.channel.state with
  | .closed _ => true
  | _ => false

/-- The class of a cycle (R37): a channel cycle is one at the window while the channel is not CLOSED. -/
def State.classOf (s : State) (c : BusCycle) : CycleClass :=
  if cycleAddress c = windowAddress s.straps.win && !s.channelClosed then .channel else .store

/-- The port classes a cycle and keeps it; a store cycle asks the arbiter for the store (R37, R44). -/
def State.classCycle (s : State) (c : BusCycle) : State :=
  match s.classOf c with
  | .channel => { s with port := { s.port with cycle := some { cycle := c, cls := some .channel } } }
  | .store =>
    { s with port := { s.port with cycle := some { cycle := c, cls := some .store } },
             arbiter := { s.arbiter with waiting := some (cycleUnit c) } }

/-- The port takes a cycle, unless READY for the one before is still withheld. During the power-on load it
keeps the cycle without a class (R36, R37). -/
def State.takeCycle (s : State) (c : BusCycle) : State :=
  match s.port.cycle with
  | some _ => s
  | none =>
    if s.image.state = .loading then { s with port := { s.port with cycle := some { cycle := c, cls := none } } }
    else s.classCycle c

/-- PROCESSOR_CYCLE (R37, R45). -/
def execProcessorCycle (cycle : BusCycle) (s : State) : Host.Outcome State Fault Refusal :=
  .next (s.settle.takeCycle cycle).resume

/-! ## Unit steps -/

/-- Whether the unit in progress satisfies a test. -/
def State.unitIs (s : State) (test : StoreUnit → Bool) : Bool :=
  match s.arbiter.inProgress with
  | some u => test u
  | none => false

/-- A unit step for the units that satisfy a test: the unit in progress runs to its end (R43). -/
def State.unitStep (s : State) (test : StoreUnit → Bool) : State :=
  if s.unitIs test then s.finishUnit.resume
  else if s.settle.unitIs test then s.settle.finishUnit.resume
  else s

/-- A processor write unit. -/
def isProcessorWrite : StoreUnit → Bool
  | .processor (.write _ _) => true
  | _ => false

/-- A processor read unit. -/
def isProcessorRead : StoreUnit → Bool
  | .processor (.read _) => true
  | _ => false

/-- A READ_STORE access. -/
def isRawRead : StoreUnit → Bool
  | .processor (.raw _) => true
  | _ => false

/-- A sweep unit of a kind. -/
def isSweepUnit (kind : SweepKind) : StoreUnit → Bool
  | .sweep k _ => k = kind
  | _ => false

/-- PROCESSOR_WRITE (R38). -/
def execProcessorWrite (s : State) : Host.Outcome State Fault Refusal := .next (s.unitStep isProcessorWrite)

/-- PROCESSOR_READ (R39). -/
def execProcessorRead (s : State) : Host.Outcome State Fault Refusal := .next (s.unitStep isProcessorRead)

/-- READ_STORE_ACCESS (R54). -/
def execReadStoreAccess (s : State) : Host.Outcome State Fault Refusal := .next (s.unitStep isRawRead)

/-- PREPARE_UNIT (R87). -/
def execPrepareUnit (s : State) : Host.Outcome State Fault Refusal := .next (s.unitStep (isSweepUnit .prepare))

/-- CENSUS_UNIT (R90). -/
def execCensusUnit (s : State) : Host.Outcome State Fault Refusal := .next (s.unitStep (isSweepUnit .census))

/-- BRIDGE_UNIT (R88). -/
def execBridgeUnit (s : State) : Host.Outcome State Fault Refusal := .next (s.unitStep (isSweepUnit .bridge))

/-- ROLL_UNIT (R91). -/
def execRollUnit (s : State) : Host.Outcome State Fault Refusal := .next (s.unitStep (isSweepUnit .roll))

/-- UNROLL_UNIT (R91). -/
def execUnrollUnit (s : State) : Host.Outcome State Fault Refusal := .next (s.unitStep (isSweepUnit .unroll))

/-- RELEASE_UNIT (R89). -/
def execReleaseUnit (s : State) : Host.Outcome State Fault Refusal := .next (s.unitStep (isSweepUnit .release))

/-- UNBRIDGE_UNIT (R89). -/
def execUnbridgeUnit (s : State) : Host.Outcome State Fault Refusal := .next (s.unitStep (isSweepUnit .unbridge))

end Sys2Proof.Machine
end

