-- ==== Sys2Proof/Machine/TimingSteps.lean ====
section
/-! DEFINITION. Inputs of the timing unit and the peer link: FS_PULSE and FS_ABSENCE (chapter 6), BYTE_TAKEN
and TRANSMIT_COMPLETE (chapter 9). -/

namespace Sys2Proof.Machine

/-! ## FS_PULSE (R99 to R105) -/

/-- The aligned value a = (16 − t) mod 16 (R100). -/
def Timing.aligned (t : Timing) : BitVec 4 := BitVec.ofInt 4 (16 - t.trim)

/-- The timing unit as the next FS pulse finds it: in STOPPED the pulse first ends STOPPED, in SEARCH with the
interval count 0 (R105). -/
def Timing.awake (t : Timing) : Timing :=
  match t.sync with
  | .stopped => { t with sync := .search, interval := 0 }
  | _ => t

/-- The interval count that a pulse reaches: one more, up to 64 (R99). -/
def Timing.reaches (t : Timing) : Nat := min 64 (t.interval + 1)

/-- Whether an accepted MFS raises SYNC_REALIGN: off time in LOCKED and FLYWHEEL, or moving the boundary from
ADRIFT (R101 to R104). -/
def Timing.realigns (t : Timing) : Bool :=
  match t.sync with
  | .search | .stopped => false
  | .locked => t.reaches != 16
  | .flywheel => t.reaches % 16 != 0
  | .adrift => t.aligned != t.frame + 1

/-- A pulse that carries MFS: the counters align and the sync state becomes LOCKED (R100). -/
def Timing.accept (t : Timing) : Timing := { t with frame := t.aligned, interval := 0, sync := .locked }

/-- A pulse that carries no MFS: f and the interval count advance (R99). -/
def Timing.advance (t : Timing) : Timing := { t with frame := t.frame + 1, interval := t.reaches }

/-- The sync event that a pulse without MFS makes due: a miss, or the entry to ADRIFT (R101 to R103). -/
def Timing.missed (t : Timing) : List Due :=
  match t.sync, t.reaches with
  | .search, 64 => [.adriftEntry]
  | .locked, 16 => [.mfsMiss]
  | .flywheel, 32 => [.mfsMiss]
  | .flywheel, 48 => [.mfsMiss]
  | .flywheel, 64 => [.adriftEntry]
  | _, _ => []

/-- The boundary that a pulse makes due: f has become 0 (R99). -/
def Timing.boundaryDue (t : Timing) : List Due := if t.frame = 0 then [.boundary] else []

/-- A frame pulse taken, with or without MFS (R99 to R105). -/
def State.pulse (s : State) (mfs : Bool) : State :=
  let t := s.timing.awake
  if mfs then
    let s1 : State := { s with timing := t.accept, due := s.due ++ t.accept.boundaryDue }
    if t.realigns then s1.raise .syncRealign none else s1
  else { s with timing := t.advance, due := s.due ++ t.missed ++ t.advance.boundaryDue }

/-- FS_PULSE (R99). -/
def execFsPulse (mfs : Bool) (s : State) : Host.Outcome State Fault Refusal := .next (s.settle.pulse mfs).resume

/-! ## FS_ABSENCE (R105) -/

/-- No FS for more than 1 ms: STOPPED is entered and SYNC_LOSS raised; in STOPPED nothing happens (R105). -/
def State.fsAbsent (s : State) : State :=
  if s.timing.sync = .stopped then s else (s.setSync .stopped).raise .syncLoss none

/-- FS_ABSENCE (R105). -/
def execFsAbsence (s : State) : Host.Outcome State Fault Refusal := .next s.settle.fsAbsent.resume

/-! ## BYTE_TAKEN (R159, R162, R163) -/

/-- A character taken by the receiver. One in error discards the frame in progress, and in HUNT is ignored
(R163). -/
def State.takeCharacter (s : State) : Character → State
  | .byte b => s.received (s.link.takeByte s.linkDisabled b)
  | .inError => if s.link.receiver = .hunt then s else s.received (s.link, some .frameDiscard)

/-- BYTE_TAKEN (R162). -/
def execByteTaken (character : Character) (s : State) : Host.Outcome State Fault Refusal :=
  .next (s.settle.takeCharacter character).resume

/-! ## TRANSMIT_COMPLETE (R174) -/

/-- TRANSMIT_COMPLETE: the transmitter becomes IDLE (R174). -/
def execTransmitComplete (s : State) : Host.Outcome State Fault Refusal :=
  let t := s.settle
  .next { t with link := { t.link with transmitter := none } }

end Sys2Proof.Machine
end

