-- ==== Sys2Proof/Machine/ImageSteps.lean ====
section
/-! DEFINITION. The binding image's own steps (chapter 2), IMAGE_PROGRAMMED, IMAGE_ERASED and IMAGE_LOAD, and
the resets, POWER_ON_RESET and PRST. -/

namespace Sys2Proof.Machine

/-- The state with an image slot replaced. -/
def State.setSlot (s : State) (p : Port) (c : ImageSlot) : State :=
  { s with image := { s.image with slots := s.image.slots.set p.val c p.isLt } }

/-- The state with an image state. -/
def State.setImageState (s : State) (i : ImageState) : State := { s with image := { s.image with state := i } }

/-! ## IMAGE_PROGRAMMED (R32) and IMAGE_ERASED (R33) -/

/-- IMAGE_PROGRAMMED: slot p holds the slot record with a good check value and the image is READY (R32). -/
def execImageProgrammed (s : State) : Host.Outcome State Fault Refusal :=
  let t := s.settle
  match t.image.state with
  | .programming p c => .next ((t.setSlot p (.good c)).setImageState .ready)
  | _ => .next s

/-- IMAGE_ERASED: every slot is blank and the image is READY (R33). -/
def execImageErased (s : State) : Host.Outcome State Fault Refusal :=
  let t := s.settle
  match t.image.state with
  | .erasing => .next { t with image := { state := .ready, slots := Vector.replicate 64 .blank } }
  | _ => .next s

/-! ## IMAGE_LOAD (R34, R35) -/

/-- What a slot record installs as record `p`: its fibre port and map when they pass the tests of R34. -/
def State.installable (s : State) (p : Port) (c : SlotRecord) : Option (FibrePort × ChannelMap) :=
  if c.copper != p then none
  else
    match mapOfBytes c.map.toList, fibrePortOf c.fibre.toNat with
    | some m, some F =>
      if validMap m && (s.boundTo F).isNone && !s.circuitHeld c.circuit then some (F, m) else none
    | _, _ => none

/-- The record that an installed slot makes: MIGRATED and PINNED (R35). -/
def installedRecord (c : SlotRecord) (F : FibrePort) (m : ChannelMap) : TrunkRecord where
  phase          := .migrated
  binding        := some
    { fibre := F, circuit := c.circuit, map := m, digest := mapDigest m, prepared := true,
      fibreAlarm := false }
  groups         := c.groups
  lock           := .pinned
  autoLead       := none
  rollRequest    := none
  releaseRequest := false
  epoch          := none
  rollStart      := none
  soak           := none
  commit         := true
  undo           := none
  indexLost      := false
  lingering      := false

/-- Slot `p` examined by the load (R34). -/
def State.loadSlot (s : State) (p : Port) : State :=
  match s.slot p with
  | .blank => s
  | .failing => s.raise .imageRecord (some p)
  | .good c =>
    match s.installable p c with
    | some (F, m) => (s.setTrunk p (installedRecord c F m)).setBoundTo F (some p)
    | none => s.raise .imageRecord (some p)

/-- A cycle held during the load is classed when it ends (R36, R55). -/
def State.classHeld (s : State) : State :=
  match s.port.cycle with
  | some { cycle := c, cls := none } => s.classCycle c
  | _ => s

/-- IMAGE_LOAD: slots 0 to 63 are examined in ascending order, the image becomes READY, and a processor cycle
held during the load is taken (R34 to R36). -/
def execImageLoad (s : State) : Host.Outcome State Fault Refusal :=
  let t := s.settle
  if t.image.state = .loading then
    .next (((allPorts.foldl State.loadSlot t).setImageState .ready).classHeld).resume
  else .next s

/-! ## POWER_ON_RESET (R30, R32, R33, R36, R55, R57, R98, R160, R166, R179, R191) -/

/-- An image slot after a power-on reset: the slot being programmed is failing (R32); during an erase a slot
that was not blank is blank or failing, which is a free value (R33, log 8). -/
def State.slotAfterReset (s : State) (p : Port) : ImageSlot :=
  match s.image.state with
  | .programming q _ => if q = p then .failing else s.slot p
  | .erasing =>
    match s.slot p with
    | .blank => .blank
    | _ => if Config.eraseLeavesBlank s.draws p.val then .blank else .failing
  | .ready | .loading => s.slot p

/-- The image after a power-on reset: LOADING, its slots kept (R30). -/
def State.imageAfterReset (s : State) : BindingImage where
  state := .loading
  slots := allPorts.foldl (fun v p => v.set p.val (s.slotAfterReset p) p.isLt) s.image.slots

/-- The cycle that the port goes on withholding READY for, to be taken anew after the load (R55). -/
def State.cycleAfterReset (s : State) : Option HeldCycle :=
  s.port.cycle.map (fun h => { h with cls := none })

/-- Every block at its power-on values, with the straps read and the unit in progress cut short (R55). -/
def State.afterPowerOn (s : State) (straps : Straps) (accessesMade : Nat) : State :=
  { State.reset with
    straps  := straps,
    port    := { cycle := s.cycleAfterReset, readData := Config.resetReadData },
    store   := s.storeCutShort accessesMade,
    image   := s.imageAfterReset,
    draws   := s.draws + 1,
    pending := s.pending }

/-- POWER_ON_RESET: at its end PEER_IDENTITY is raised when SITE disables the link (R166). -/
def execPowerOnReset (straps : Straps) (accessesMade : Nat) (s : State) : Host.Outcome State Fault Refusal :=
  let t := s.afterPowerOn straps accessesMade
  .next (if t.linkDisabled then t.raise .peerIdentity none else t)

/-! ## PRST (R56, R199) -/

/-- PRST: a channel cycle that the port took before it is served first (R56), the unit in progress runs to its
end (R43), then the control channel takes its reset values (R191); no other block changes. -/
def execPrst (s : State) : Host.Outcome State Fault Refusal :=
  .next ({ s.settle.finishUnit with channel := initialChannel } : State).resume

end Sys2Proof.Machine
end

