-- ==== Sys2Proof/Machine/Dispatch.lean ====
section
/-! DEFINITION. The dispatch of a step to its meaning: one arm per constructor of `Instr`, in the order of
spec/opcode_table.json. -/

namespace Sys2Proof.Machine

def exec (i : Instr) (s : State) : Host.Outcome State Fault Refusal :=
  match i with
  | .processorCycle cycle => Sys2Proof.Machine.execProcessorCycle cycle s
  | .processorWrite => Sys2Proof.Machine.execProcessorWrite s
  | .processorRead => Sys2Proof.Machine.execProcessorRead s
  | .channelRead => Sys2Proof.Machine.execChannelRead s
  | .parameterWord => Sys2Proof.Machine.execParameterWord s
  | .unknownCommand => Sys2Proof.Machine.execUnknownCommand s
  | .status => Sys2Proof.Machine.execStatus s
  | .bind => Sys2Proof.Machine.execBind s
  | .unbind => Sys2Proof.Machine.execUnbind s
  | .groups => Sys2Proof.Machine.execGroups s
  | .lock => Sys2Proof.Machine.execLock s
  | .unlock => Sys2Proof.Machine.execUnlock s
  | .pin => Sys2Proof.Machine.execPin s
  | .eraseImage => Sys2Proof.Machine.execEraseImage s
  | .start => Sys2Proof.Machine.execStart s
  | .bridge => Sys2Proof.Machine.execBridge s
  | .roll => Sys2Proof.Machine.execRoll s
  | .disarm => Sys2Proof.Machine.execDisarm s
  | .release => Sys2Proof.Machine.execRelease s
  | .fallback => Sys2Proof.Machine.execFallback s
  | .abort => Sys2Proof.Machine.execAbort s
  | .recensus => Sys2Proof.Machine.execRecensus s
  | .auto => Sys2Proof.Machine.execAuto s
  | .hold => Sys2Proof.Machine.execHold s
  | .clearHold => Sys2Proof.Machine.execClearHold s
  | .queryTrunk => Sys2Proof.Machine.execQueryTrunk s
  | .queryFaults => Sys2Proof.Machine.execQueryFaults s
  | .clearFaults => Sys2Proof.Machine.execClearFaults s
  | .setAction => Sys2Proof.Machine.execSetAction s
  | .setTiming => Sys2Proof.Machine.execSetTiming s
  | .readStore => Sys2Proof.Machine.execReadStore s
  | .readStoreAccess => Sys2Proof.Machine.execReadStoreAccess s
  | .queryIndex => Sys2Proof.Machine.execQueryIndex s
  | .close => Sys2Proof.Machine.execClose s
  | .prepareUnit => Sys2Proof.Machine.execPrepareUnit s
  | .censusUnit => Sys2Proof.Machine.execCensusUnit s
  | .bridgeUnit => Sys2Proof.Machine.execBridgeUnit s
  | .rollUnit => Sys2Proof.Machine.execRollUnit s
  | .unrollUnit => Sys2Proof.Machine.execUnrollUnit s
  | .releaseUnit => Sys2Proof.Machine.execReleaseUnit s
  | .unbridgeUnit => Sys2Proof.Machine.execUnbridgeUnit s
  | .prepareCompletion => Sys2Proof.Machine.execPrepareCompletion s
  | .censusCompletion => Sys2Proof.Machine.execCensusCompletion s
  | .bridgeCompletion => Sys2Proof.Machine.execBridgeCompletion s
  | .rollCompletion => Sys2Proof.Machine.execRollCompletion s
  | .unrollCompletion => Sys2Proof.Machine.execUnrollCompletion s
  | .releaseCompletion => Sys2Proof.Machine.execReleaseCompletion s
  | .unbridgeCompletion => Sys2Proof.Machine.execUnbridgeCompletion s
  | .fsPulse mfs => Sys2Proof.Machine.execFsPulse mfs s
  | .mfsMiss => Sys2Proof.Machine.execMfsMiss s
  | .adriftEntry => Sys2Proof.Machine.execAdriftEntry s
  | .fsAbsence => Sys2Proof.Machine.execFsAbsence s
  | .multiframeBoundary => Sys2Proof.Machine.execMultiframeBoundary s
  | .soakExpiry record => Sys2Proof.Machine.execSoakExpiry record s
  | .autoStart record => Sys2Proof.Machine.execAutoStart record s
  | .autoBridge record => Sys2Proof.Machine.execAutoBridge record s
  | .arming record => Sys2Proof.Machine.execArming record s
  | .returnToBridged record => Sys2Proof.Machine.execReturnToBridged record s
  | .rollStart => Sys2Proof.Machine.execRollStart s
  | .releaseAtBoundary record => Sys2Proof.Machine.execReleaseAtBoundary record s
  | .beaconCountdownExpiry => Sys2Proof.Machine.execBeaconCountdownExpiry s
  | .beaconTransmit => Sys2Proof.Machine.execBeaconTransmit s
  | .transmitComplete => Sys2Proof.Machine.execTransmitComplete s
  | .peerSilent => Sys2Proof.Machine.execPeerSilent s
  | .beaconFrame => Sys2Proof.Machine.execBeaconFrame s
  | .alarmFrame => Sys2Proof.Machine.execAlarmFrame s
  | .frameIgnored => Sys2Proof.Machine.execFrameIgnored s
  | .frameDiscard => Sys2Proof.Machine.execFrameDiscard s
  | .gapExpiry => Sys2Proof.Machine.execGapExpiry s
  | .imageProgrammed => Sys2Proof.Machine.execImageProgrammed s
  | .imageErased => Sys2Proof.Machine.execImageErased s
  | .imageLoad => Sys2Proof.Machine.execImageLoad s
  | .powerOnReset straps accessesMade => Sys2Proof.Machine.execPowerOnReset straps accessesMade s
  | .prst => Sys2Proof.Machine.execPrst s
  | .commandWord => Sys2Proof.Machine.execCommandWord s
  | .byteTaken character => Sys2Proof.Machine.execByteTaken character s

end Sys2Proof.Machine
end

