-- ==== Sys2Proof/Machine/Step.lean ====
section
/-! DEFINITION. One step of the model: the step at the front of the queue is taken, first in, first out; on
an empty queue the part idles (log 3). -/

namespace Sys2Proof.Machine

/-- The step at the front of the queue runs on the state with the rest of the queue; on an empty queue the
part idles, and nothing changes (log 3). -/
def step (s : State) : Host.Outcome State Fault Refusal :=
  match s.pending with
  | [] => .next s
  | c :: rest => exec c { s with pending := rest }

/-- `s` with the step that a word of the table spells put at the front of its queue; `s` itself where the
word spells none, which is every word, as no row of the table has bits (log 3). -/
def State.withFetchWord (s : State) (nbits w : Nat) : State :=
  match decodeTableWord nbits w with
  | some c => { s with pending := c :: s.pending }
  | none => s

end Sys2Proof.Machine
end

