-- ==== Sys2Proof/Safety.lean ====
section
/-! DEFINITION. What claims are stated with: which command a row serves and which targets it accepts, what an
answer is, the sweep queue as it is seen, and the invariants that a sound state of the part keeps. -/

namespace Sys2Proof.Machine

/-! ## Commands, their rows and their targets (R200) -/

/-- The row of the table that serves a command. -/
def Command.row : Command → Instr
  | .status => .status
  | .bind => .bind
  | .unbind => .unbind
  | .groups => .groups
  | .lock => .lock
  | .unlock => .unlock
  | .pin => .pin
  | .eraseImage => .eraseImage
  | .start => .start
  | .bridge => .bridge
  | .roll => .roll
  | .disarm => .disarm
  | .release => .release
  | .fallback => .fallback
  | .abort => .abort
  | .recensus => .recensus
  | .auto => .auto
  | .hold => .hold
  | .clearHold => .clearHold
  | .queryTrunk => .queryTrunk
  | .queryFaults => .queryFaults
  | .clearFaults => .clearFaults
  | .setAction => .setAction
  | .setTiming => .setTiming
  | .readStore => .readStore
  | .queryIndex => .queryIndex
  | .close => .close

/-- Whether a command accepts a target, by the table of R200. -/
def Command.accepts : Command → Target → Bool
  | .close, _ => true
  | .bind, .copper _ | .groups, .copper _ | .queryTrunk, .copper _ | .queryIndex, .copper _ => true
  | .status, .noRecord | .eraseImage, .noRecord | .hold, .noRecord | .clearHold, .noRecord
  | .queryFaults, .noRecord | .clearFaults, .noRecord | .setAction, .noRecord | .setTiming, .noRecord
  | .readStore, .noRecord => true
  | .unbind, t | .lock, t | .unlock, t | .pin, t | .start, t | .bridge, t | .roll, t | .disarm, t
  | .release, t | .fallback, t | .abort, t | .recensus, t | .auto, t =>
    match t with
    | .copper _ | .group _ | .allBound => true
    | .noRecord | .other => false
  | _, _ => false

/-- The commands that take copper port and group targets (R200). -/
def groupCommands : List Command :=
  [.unbind, .lock, .unlock, .pin, .start, .bridge, .roll, .disarm, .release, .fallback, .abort, .recensus,
   .auto]

/-- The commands that a LOCKED or PINNED record refuses (R27). -/
def lockedCommands : List Command :=
  [.start, .bridge, .roll, .release, .abort, .recensus, .auto, .groups, .unbind]

/-- The commands that are refused with HELD in hold (R184). -/
def heldCommands : List Command := [.start, .bridge, .roll, .release, .recensus]

/-- The channel cycle that the port keeps completes this command, with this target byte and these
parameters (R195). -/
def State.completes (s : State) (c : Command) (target : Byte) (params : List Word) : Prop :=
  s.channelAct = some (.execute c target params)

/-! ## Answers -/

/-- `t` is `u` with a command answered: the response is pending at its header, the last result is the
header's, and READY is given (R195). -/
def State.answered (u t : State) (r : Result) (words : List Word) : Prop :=
  t.channel = { state := .answering (headerWord r words.length :: words) 0, lastResult := r } ∧
    t.port = { u.port with cycle := none }

/-- What a command answers in a state, with its effects (R200). CLOSE answers nothing, and a READ_STORE that is not
refused answers when its access is made (R54). -/
def Command.answer : Command → Byte → List Word → State → Answer
  | .status, target, _ => deviceCommand (fun s => (s, .done, s.statusWords)) target
  | .bind, target, params => copperCommand (bindRecord params) target
  | .unbind, target, _ => recordCommand unbindOne target
  | .groups, target, params => copperCommand (groupsRecord (parameter params 0)) target
  | .lock, target, _ => recordCommand lockOne target
  | .unlock, target, _ => recordCommand unlockOne target
  | .pin, target, _ => recordCommand pinOne target
  | .eraseImage, target, _ => deviceCommand Machine.eraseImage target
  | .start, target, _ => recordCommand startOne target
  | .bridge, target, _ => recordCommand bridgeOne target
  | .roll, target, params => recordCommand (rollOne (parameter params 0).toNat) target
  | .disarm, target, _ => recordCommand disarmOne target
  | .release, target, _ => recordCommand releaseOne target
  | .fallback, target, _ => recordCommand fallbackOne target
  | .abort, target, _ => recordCommand abortOne target
  | .recensus, target, _ => recordCommand recensusOne target
  | .auto, target, params =>
    recordCommand (autoOne (parameter params 0).toNat (parameter params 1).toNat) target
  | .hold, target, _ => deviceCommand (fun s => (s.setHold true, .done, [])) target
  | .clearHold, target, _ => deviceCommand (fun s => (s.setHold false, .done, [])) target
  | .queryTrunk, target, _ => copperCommand (fun p s => (s.drawn, .done, s.trunkWords p)) target
  | .queryFaults, target, _ => deviceCommand (fun s => (s.drawn, .done, s.faultWords)) target
  | .clearFaults, target, _ => deviceCommand (fun s => (s.clearFaults, .done, [])) target
  | .setAction, target, params => deviceCommand (Machine.setAction (parameter params 0)) target
  | .setTiming, target, params => deviceCommand (Machine.setTiming params) target
  | .readStore, target, params =>
    deviceCommand (fun s => (s, if 4095 < (parameter params 0).toNat then .badParam else .accepted, [])) target
  | .queryIndex, target, params => copperCommand (Machine.queryIndex (parameter params 0).toNat) target
  | .close, _, _ => fun s => (s, .done, [])

/-- The state in which a command is taken (R41): at once when its tests refuse it, otherwise at the end of the unit in
progress, before the sweep of that unit moves its cursor (R85). With the store free both are `s` (log 28). -/
def State.foundBy (s : State) (c : Command) (target : Byte) (params : List Word) : State :=
  if Answer.refused (c.answer target params s) then s else s.atBoundary

/-! ## The sweep queue as it is seen (R96) -/

/-- What is seen of a sweep record: its kind, its trunk and its units done. -/
def Sweep.seen (sw : Sweep) : SweepKind × Port × Nat := (sw.kind, sw.trunk, sw.unitsDone)

/-- What is seen of the sweep queue, in queue order. -/
def State.sweepQueue (s : State) : List (SweepKind × Port × Nat) := s.sweeps.map Sweep.seen

/-- A queue with a new sweep at the end of its class (R81). -/
def joinQueue (q : List (SweepKind × Port × Nat)) (kind : SweepKind) (p : Port) :
    List (SweepKind × Port × Nat) :=
  let a := q.filter (fun e => e.1.classA)
  let b := q.filter (fun e => !e.1.classA)
  if kind.classA then a ++ (kind, p, 0) :: b else a ++ (b ++ [(kind, p, 0)])

/-- `t` is `u` after an event that ended with the engine and the arbiter at work: every other item is `u`'s,
and the sweep queue is seen as `u`'s. -/
def State.resumed (u t : State) : Prop :=
  t = { u with sweeps := t.sweeps, arbiter := t.arbiter } ∧ t.sweepQueue = u.sweepQueue

/-- `t` is `u` with a command answered by this result and these words, and nothing else changed: no record, table,
sweep or other item. -/
def State.answers (u t : State) (r : Result) (words : List Word) : Prop :=
  u.answered t r words ∧
    t = { u with port := t.port, channel := t.channel, sweeps := t.sweeps, arbiter := t.arbiter } ∧
    t.sweepQueue = u.sweepQueue

/-- `t` is `u` with a command answered by this result alone: no record, table, sweep or other item changes. -/
def State.refuses (u t : State) (r : Result) : Prop := u.answers t r []

/-- `t` is `u` with a command answered by this result, and nothing else changed but the trunk record of `p`, which
is now `r`. -/
def State.takes (u t : State) (result : Result) (p : Port) (r : TrunkRecord) : Prop :=
  u.answered t result [] ∧
    t = { u with trunks := t.trunks, port := t.port, channel := t.channel, sweeps := t.sweeps,
                 arbiter := t.arbiter } ∧
    t.sweepQueue = u.sweepQueue ∧ ∀ q, t.trunk q = if q = p then r else u.trunk q

/-- The trunk records of `t` are those of `u` but for record `p`, which is now `r`. -/
def State.recordChanged (u t : State) (p : Port) (r : TrunkRecord) : Prop :=
  ∀ q, t.trunk q = if q = p then r else u.trunk q

/-- `t` is `u` after record `p` has been started (R118, R116): CENSUS, its CENSUS sweep queued, its peer view entry
made, a beacon made due. -/
def State.started (u t : State) (p : Port) : Prop :=
  u.recordChanged t p { u.trunk p with phase := .census } ∧ t.sweepQueue = joinQueue u.sweepQueue .census p ∧
    (∀ q, t.view q =
      if q = p then (u.trunk p).binding.map (fun b => newView b.circuit) else u.view q) ∧
    t.link = { u.link with views := t.link.views, changePending := true } ∧
    t = { u with trunks := t.trunks, link := t.link, sweeps := t.sweeps, port := t.port, channel := t.channel,
                 arbiter := t.arbiter }

/-- `t` is `u` after an event that changed record `p` to `r` and reported it to the peer link (R116), with the armed
list and the sweep queue that are named. -/
def State.moved (u t : State) (p : Port) (r : TrunkRecord) (armed : List Port)
    (queue : List (SweepKind × Port × Nat)) : Prop :=
  u.recordChanged t p r ∧ t.armedList = armed ∧ t.sweepQueue = queue ∧
    t.link = { u.link with changePending := true } ∧
    t = { u with trunks := t.trunks, armedList := t.armedList, link := t.link, sweeps := t.sweeps, port := t.port,
                 channel := t.channel, arbiter := t.arbiter }

/-- `u.moved t` at an event that is no command: the port and the channel stay as they are too. -/
def State.movedAlone (u t : State) (p : Port) (r : TrunkRecord) (armed : List Port)
    (queue : List (SweepKind × Port × Nat)) : Prop :=
  u.moved t p r armed queue ∧ t.port = u.port ∧ t.channel = u.channel

/-- The queue of `u` after record `p` has entered UNROLLING: its ROLL replaced in place by an UNROLL from ROLLING
(R84), an UNROLL queued at the end of class A from ROLLED (R146). -/
def State.unrollQueue (u : State) (p : Port) : List (SweepKind × Port × Nat) :=
  if u.phase p = .rolling then
    u.sweepQueue.map (fun e => if e.2.1 = p ∧ e.1 = .roll then (.unroll, p, 0) else e)
  else joinQueue u.sweepQueue .unroll p

/-- The queue of `u` without the sweep of trunk `p` (R83, R86). -/
def State.queueWithout (u : State) (p : Port) : List (SweepKind × Port × Nat) :=
  u.sweepQueue.filter (fun e => e.2.1 != p)

/-- The queue of `u` with one more unit done of the sweep of trunk `p`, up to 65535 (R77, R85 (1)). -/
def State.queueCounted (u : State) (p : Port) : List (SweepKind × Port × Nat) :=
  u.sweepQueue.map (fun e =>
    if e.2.1 = p then (e.1, e.2.1, if e.2.2 < 65535 then e.2.2 + 1 else e.2.2) else e)

/-! ## Occurrences and fallback (R154, R180, R185) -/

/-- What fallback makes of a record (R145, R146). -/
def TrunkRecord.fellBack (r : TrunkRecord) : TrunkRecord :=
  match r.phase, r.commit with
  | .armed, _ => { r with phase := .bridged, epoch := none, rollRequest := none, autoLead := none }
  | .rolling, _ | .rolled, false =>
    { r with phase := .unrolling, undo := some .bridged, autoLead := none, releaseRequest := false, soak := none }
  | _, _ => r

/-- Whether a record has committed: fallback that reaches it alone is blocked (R147, R154). -/
def TrunkRecord.committed (r : TrunkRecord) : Bool :=
  (r.phase = .rolled && r.commit) || r.phase = .releasing || r.phase = .migrated

/-- A queue after record `p` of `u` has fallen back: a ROLLING record's ROLL is replaced in place by an UNROLL (R84), a
ROLLED record's UNROLL joins the end of class A (R146). -/
def State.queueFallen (u : State) (q : List (SweepKind × Port × Nat)) (p : Port) :
    List (SweepKind × Port × Nat) :=
  match u.phase p, (u.trunk p).commit with
  | .rolling, _ => q.map (fun e => if e.2.1 = p ∧ e.1 = .roll then (.unroll, p, 0) else e)
  | .rolled, false => joinQueue q .unroll p
  | _, _ => q

/-- A list of ports with each port at its first place alone. -/
def firstPlaces (ps : List Port) : List Port :=
  ps.foldl (fun seen p => if p ∈ seen then seen else seen ++ [p]) []

/-- The records that occurrences reach with fallback, in order: those of class FALLBACK and unmasked, the trunk that
one carries, or every record, of which only those in roll move (R185). -/
def State.reachedBy (u : State) (os : List Occurrence) : List Port :=
  firstPlaces (os.flatMap (fun o =>
    if u.dispatches o.1 then
      (match o.2 with
      | some p => [p]
      | none => allPorts)
    else []))

/-- The FALLBACK_BLOCKED occurrences that an occurrence causes: one when it dispatches fallback to a committed trunk
(R154, R185). -/
def State.blockedBy (u : State) (o : Occurrence) : List Occurrence :=
  match o.2 with
  | some p => if u.dispatches o.1 && (u.trunk p).committed then [(.fallbackBlocked, some p)] else []
  | none => []

/-- The collector of `u` after occurrences, in order (R180). -/
def State.collected (u : State) (os : List Occurrence) : FaultCollector :=
  (os.foldl (fun s o => s.recordOccurrence o.1 o.2) u).faults

/-- `t` is `u` after fallback has been applied to records `ps`, in that order, and the occurrences `os` have been
taken: the records of `ps` in roll fall back, their ports leave the armed list, their sweeps are replaced or queued,
and each change makes a beacon due. Nothing else changes. -/
def State.fallsBack (u t : State) (ps : List Port) (os : List Occurrence) : Prop :=
  (∀ p, t.trunk p = if p ∈ ps then (u.trunk p).fellBack else u.trunk p) ∧
    t.armedList = ps.foldl (fun l p => if u.phase p = .armed then l.erase p else l) u.armedList ∧
    t.sweepQueue = ps.foldl u.queueFallen u.sweepQueue ∧
    t.link = { u.link with changePending := u.link.changePending || ps.any u.uncommittedInRoll } ∧
    t.faults = u.collected os ∧
    t = { u with trunks := t.trunks, armedList := t.armedList, sweeps := t.sweeps, link := t.link,
                 faults := t.faults, arbiter := t.arbiter }

/-- `t` is `u` after faults that were raised between two store units, in order: each is taken by the collector, and
each of class FALLBACK dispatches fallback before the next (R180, R185). -/
def State.raised (u t : State) (os : List Occurrence) : Prop :=
  u.fallsBack t (u.reachedBy os) (os.flatMap (fun o => o :: u.blockedBy o))

/-- `t` is `u` after a fault raised at an event of its own, when a store unit may be in progress: the collector takes it
at once, and fallback, if its class dispatches it, comes when the unit ends (R43, R180, R185). -/
def State.raisesAt (u t : State) (src : FaultSource) (trunk : Option Port) : Prop :=
  let v : State := { u with faults := u.collected [(src, trunk)] }
  if u.dispatches src = true then
    v.atBoundary.fallsBack t (v.atBoundary.reachedBy [(src, trunk)]) (v.atBoundary.blockedBy (src, trunk))
  else v.resumed t

/-- `after` is the link `l` after these bytes have been re-taken, each by the receiver in turn: either none makes an event
due, and no byte is left, or the first that does makes `event` due, and the bytes behind it are left (R163). -/
def PeerLink.retaken (l : PeerLink) (disabled : Bool) (bytes : List Byte) (after : PeerLink)
    (event : Option Due) : Prop :=
  let before (n : Nat) : PeerLink := (bytes.take n).foldl (fun m b => (m.takeByte disabled b).1) l
  let makes (n : Nat) : PeerLink × Option Due := (before n).takeByte disabled (bytes.getD n 0)
  ((∀ n < bytes.length, (makes n).2 = none) ∧ event = none ∧ after = { before bytes.length with retaking := [] }) ∨
    ∃ n < bytes.length, (∀ i < n, (makes i).2 = none) ∧ (makes n).2.isSome = true ∧ event = (makes n).2 ∧
      after = { (makes n).1 with retaking := bytes.drop (n + 1) }

/-- `t` is `v` after the bytes of a discard that are still to be re-taken are taken, up to the first that makes an
event due (R163). -/
def State.goesOn (v t : State) : Prop :=
  ∃ link event, v.link.retaken v.linkDisabled v.link.retaking link event ∧
    ({ v with link := link, due := event.toList ++ v.due } : State).resumed t

/-! ## Links (R57 to R73) -/

/-- The links of `u` without those of trunk `p` (R70, R71). -/
def State.linksWithout (u : State) (p : Port) : List Link := u.links.filter (fun l => l.talker.port != p)

/-- The links after the report of a word written at `x`, with a link free (R63, R64): a link whose talker the word
still names is kept in its place, any other link of `x` goes, and a talker that the word names gets one at its tail. -/
def State.linksReported (u : State) (links : List Link) (x : Physical) (w : Word) : List Link :=
  match links.find? (fun l => l.listener = x), u.namedTalker w with
  | none, none => links
  | none, some t => links ++ [{ talker := t, listener := x }]
  | some _, none => links.filter (fun l => l.listener != x)
  | some l, some t =>
    if l.talker = t then links else links.filter (fun l => l.listener != x) ++ [{ talker := t, listener := x }]

/-- The order in which an INDEX-mode sweep visits the lists of its trunk (R92). -/
def listOrder : List Slot := 16 :: (allSlots.filter (fun k => k < 16) ++ allSlots.filter (fun k => 16 < k))

/-- The head of the first of these lists of trunk `p` that has a link (R92). -/
def firstOfLists (links : List Link) (p : Port) (ks : List Slot) : Option (Slot × Physical) :=
  ks.findSome? (fun k =>
    (links.find? (fun l => l.talker = { port := p, slot := k })).map (fun l => (k, l.listener)))

/-- Where the cursor of an INDEX-mode sweep goes from the link at `x` in the list of slot `j`: the next link of the
list, or the head of the next list in order that has one (R92, R93). -/
def nextOfLists (links : List Link) (p : Port) (j : Slot) (x : Physical) : Option (Slot × Physical) :=
  let list := (links.filter (fun l => l.talker = { port := p, slot := j })).map Link.listener
  match (list.dropWhile (fun y => y != x)).drop 1 with
  | y :: _ => some (j, y)
  | [] => firstOfLists links p ((listOrder.dropWhile (fun k => k != j)).drop 1)

/-! ## What each member of a group does (R21) -/

/-- The effect of a command on one record, and its result (R21). -/
def Command.onRecord : Command → List Word → Option (State → Port → State × Result)
  | .unbind, _ => some unbindOne
  | .lock, _ => some lockOne
  | .unlock, _ => some unlockOne
  | .pin, _ => some pinOne
  | .start, _ => some startOne
  | .bridge, _ => some bridgeOne
  | .roll, params => some (rollOne (parameter params 0).toNat)
  | .disarm, _ => some disarmOne
  | .release, _ => some releaseOne
  | .fallback, _ => some fallbackOne
  | .abort, _ => some abortOne
  | .recensus, _ => some recensusOne
  | .auto, params => some (autoOne (parameter params 0).toNat (parameter params 1).toNat)
  | _, _ => none

/-- The state that the members before a member leave (R21). -/
def afterMembers (one : State → Port → State × Result) (u : State) (ps : List Port) : State :=
  ps.foldl (fun s p => (one s p).1) u

/-! ## Sweep units -/

/-- The unit in progress is the one at the cursor of trunk `p`'s sweep `sw`, record `p` holds binding `b`, and no
trunk has two sweeps (R79, R80). -/
def State.sweepUnit (s : State) (p : Port) (sw : Sweep) (b : Binding) : Prop :=
  s.arbiter.inProgress = some (.sweep sw.kind p) ∧ s.sweepOf p = some sw ∧ (s.trunk p).binding = some b ∧
    (s.sweeps.map Sweep.trunk).Nodup

/-- `t` is `s` after a unit of trunk `p`'s sweep that raised nothing: the store, the links, the cursors and the arbiter
apart nothing changed, the unit is counted, and the sweep's cursor stands at `next`. -/
def State.unitEnded (s t : State) (p : Port) (sw : Sweep) (next : Cursor) : Prop :=
  t = { s with store := t.store, links := t.links, sweeps := t.sweeps, arbiter := t.arbiter } ∧
    t.sweepQueue = s.queueCounted p ∧
    t.sweepOf p = some { sw.counted with cursor := next }

/-- The row of the table that a store unit is. -/
def StoreUnit.row : StoreUnit → Instr
  | .processor (.read _) => .processorRead
  | .processor (.write _ _) => .processorWrite
  | .processor (.raw _) => .readStoreAccess
  | .sweep .prepare _ => .prepareUnit
  | .sweep .census _ => .censusUnit
  | .sweep .bridge _ => .bridgeUnit
  | .sweep .roll _ => .rollUnit
  | .sweep .unroll _ => .unrollUnit
  | .sweep .release _ => .releaseUnit
  | .sweep .unbridge _ => .unbridgeUnit

/-- The fibre ports bound, ascending: the ports of a census set or scan set that is taken now (R90, R94). -/
def State.boundNow (s : State) : List FibrePort := (List.finRange 64).filter (fun F => s.boundTo F != none)

/-- The sweep `sw` as it executes at a unit boundary of `s`: a CENSUS takes its census set when it begins (R90); a ROLL
or UNROLL begins at the first link of its trunk in list order (R92), or in SCAN mode when its trunk is index-lost
(R94), to which one in INDEX mode switches too. -/
def State.executes (s : State) (sw : Sweep) : Sweep :=
  let p := sw.trunk
  let scan : Sweep := { sw with cursor := .scan false 0, scanSet := some s.boundNow }
  match sw.kind, sw.cursor with
  | .census, .census _ => { sw with scanSet := some (sw.scanSet.getD s.boundNow) }
  | .roll, .unset | .unroll, .unset =>
    if (s.trunk p).indexLost then scan else { sw with cursor := .index (firstOfLists s.links p listOrder) }
  | .roll, .index _ | .unroll, .index _ => if (s.trunk p).indexLost then scan else sw
  | _, _ => sw

/-- Whether a sweep has a unit remaining (R78, R86). -/
def Sweep.unitRemains (sw : Sweep) : Prop :=
  match sw.cursor with
  | .slot next => next < 32
  | .census position => ∀ ports, sw.scanSet = some ports → position < 2048 + 32 * ports.length
  | .unset => True
  | .index current => current ≠ none
  | .scan second position => second = true → position < 2048 + 32 * (sw.scanSet.getD []).length

/-- Whether the part is between two store units with nothing left to complete at this boundary, no event due, and no
channel cycle to serve. -/
def State.quiet (s : State) : Prop := s.somethingDue = false

/-! ## Invariants -/

/-- The store keeps its canonical form. -/
def State.storeSound (s : State) : Prop := Memory.wf s.store = true

/-- The fault collector: counts within 0–255 (R180), and FALLBACK_BLOCKED never of class FALLBACK (R185). -/
def State.collectorSound (s : State) : Prop :=
  (∀ src, (s.source src).count ≤ 255) ∧ (s.source .fallbackBlocked).cls ≠ .fallback

/-- The allowance count stays within 0–8 (R44). -/
def State.allowanceSound (s : State) : Prop := s.arbiter.allowance ≤ 8

/-- A committed record is ROLLED, RELEASING or MIGRATED (R134), and a PINNED one is MIGRATED (R27). -/
def State.commitSound (s : State) : Prop :=
  ∀ p, ((s.trunk p).commit = true → s.phase p = .rolled ∨ s.phase p = .releasing ∨ s.phase p = .migrated) ∧
    ((s.trunk p).lock = .pinned → s.phase p = .migrated)

/-- While the image is LOADING every record is FREE, no sweep and no store unit exists, and the cycle that the
port keeps has no class (R34, R36, R55). -/
def State.loadSound (s : State) : Prop :=
  s.image.state = .loading →
    (∀ p, s.phase p = .free) ∧ s.sweeps = [] ∧ s.arbiter.inProgress = none ∧ s.arbiter.waiting = none ∧
      (∀ h, s.port.cycle = some h → h.cls = none)

/-- The trunk table and the fibre binding table agree: a record is FREE exactly when it is not bound, its
fibre port's entry names it, and the entry names it only then; maps are valid, digests are theirs, and no two
records hold one circuit (R18, R19, R8, R10). -/
def State.bindingSound (s : State) : Prop :=
  (∀ p, s.phase p = .free ↔ (s.trunk p).binding = none) ∧
  (∀ p b, (s.trunk p).binding = some b →
    validMap b.map = true ∧ b.digest = mapDigest b.map ∧ s.boundTo b.fibre = some p) ∧
  (∀ F p, s.boundTo F = some p → ∃ b, (s.trunk p).binding = some b ∧ b.fibre = F) ∧
  (∀ p q b c, (s.trunk p).binding = some b → (s.trunk q).binding = some c → b.circuit = c.circuit → p = q)

/-- The armed list holds the ports of the ARMED records, each once (R115). -/
def State.armedSound (s : State) : Prop :=
  s.armedList.Nodup ∧ ∀ p, p ∈ s.armedList ↔ s.phase p = .armed

/-- The phases in which a record can have a sweep of a kind (R80, R86); PREPARE only before the record is prepared. -/
def SweepKind.fits (kind : SweepKind) (r : TrunkRecord) : Prop :=
  match kind with
  | .prepare => r.phase = .bound ∧ ∀ b, r.binding = some b → b.prepared = false
  | .census => r.phase = .census ∨ r.phase = .tracked ∨ r.phase = .bridged
  | .bridge => r.phase = .bridging
  | .roll => r.phase = .rolling
  | .unroll => r.phase = .unrolling
  | .release => r.phase = .releasing
  | .unbridge => r.phase = .unbridging

/-- The sweep queue: at most one sweep for each trunk, of a kind that fits its record, and every class A sweep before
every class B sweep (R79). -/
def State.sweepsSound (s : State) : Prop :=
  (s.sweeps.map Sweep.trunk).Nodup ∧ (∀ sw ∈ s.sweeps, sw.kind.fits (s.trunk sw.trunk)) ∧
    s.sweeps.Pairwise (fun a b => b.kind.classA = true → a.kind.classA = true)

/-- The listener index: at most 1024 links, at most one for each address, and every talker on an index-active record
that is not index-lost (R57, R58, R61, R72). -/
def State.indexSound (s : State) : Prop :=
  s.links.length ≤ 1024 ∧ (s.links.map Link.listener).Nodup ∧
    ∀ l ∈ s.links, (s.phase l.talker.port).indexActive = true ∧ (s.trunk l.talker.port).indexLost = false

/-- The announced set has at most 8 records, and a record has a peer view entry, of its own circuit, exactly while it
is announced (R116, R169). -/
def State.announcedSound (s : State) : Prop :=
  s.announcedCount ≤ 8 ∧
    ∀ p, (s.view p).map PeerView.circuit =
      if s.announced p = true then (s.trunk p).binding.map Binding.circuit else none

end Sys2Proof.Machine
end

