-- ==== Sys2Proof/Certificates/Slice0/Obligations.lean ====
section
/-! DEFINITION. The statements for the provers. Where a statement speaks of `s.atBoundary`, it is the state in which an
event that arrived during a store unit finds the part (R41, R43): the unit in progress has ended, its sweep's cursor
not yet moved (R85). A command that its tests refuse finds the part at once, as it is: `s.foundBy` says which (log 28). -/

open Sys2Proof Sys2Proof.Machine

/-! ## The machine -/

/-- A step takes the command at the front of the queue and runs its meaning on the state with the rest of the
queue; with an empty queue the part idles (log 3, the model's form of taking commands). -/
def Obligations.StepTakesTheFrontCommand : Prop :=
  (∀ (c : Instr) (s : State) (rest : List Instr),
    step { s with pending := c :: rest } = exec c { s with pending := rest }) ∧
  (∀ s : State, step { s with pending := [] } = .next { s with pending := [] })

/-- Every row goes on to a next state, which leaves the queue as it found it, and no row but POWER_ON_RESET changes the
straps: SITE and BAUD are read at power-on reset and held until the next (section 9.1), and WIN is as read at power-on
reset (section 11.6.1). That a row whose condition does not hold goes on too, leaving the state as it is, is the
model's choice (log 2), and so is the queue (log 3). -/
def Obligations.EveryRowGoesOnAndHoldsTheStraps : Prop :=
  ∀ (c : Instr) (s : State), ∃ t, exec c s = .next t ∧ t.pending = s.pending ∧
    ((∀ straps made, c ≠ .powerOnReset straps made) → t.straps = s.straps)

/-! ## Power-on reset, processor reset and the binding image -/

/-- POWER_ON_RESET gives every block its power-on values, whatever the state before (R36, R44, R57, R98, R115, R160,
R179, R191); the store keeps what it holds when no unit is in progress (R17, R55); the cycle that the port keeps goes
on waiting, without a class (R55); the image is LOADING, its slots kept, but for the slot being programmed, which fails
(R32), and the slots being erased, of which none passes its check (R33). With SITE 0 or 255 PEER_IDENTITY is raised
once at its end (R166). A reset lets the store access in progress complete and no more of its unit (R42, R55): cut off
between its two writes a SPLIT processor write leaves the copper word written and the fibre copy as it was; a BRIDGE,
ROLL or UNROLL unit cut off after its read makes no write; a unit that only reads, or none of whose accesses is made,
leaves the store as it was; and a unit all of whose accesses are made leaves the store that it leaves at its end. -/
def Obligations.PowerOnResetGivesPowerOnValues : Prop :=
  (∀ (straps : Straps) (made : Nat) (s : State), ∃ t, exec (.powerOnReset straps made) s = .next t ∧
     t.straps = straps ∧ (∀ p, t.trunk p = TrunkRecord.freeRecord) ∧ (∀ F, t.boundTo F = none) ∧
     t.armedList = [] ∧ t.links = [] ∧ t.sweeps = [] ∧
     t.arbiter = { inProgress := none, waiting := none, allowance := 0 } ∧
     t.timing = { sync := .search, frame := 0, multiframe := 0, interval := 0, trim := 0, soakMantissa := 234,
                  soakExponent := 8, beaconPeriod := 25, silenceLimit := 6, beaconCountdown := 25,
                  silenceCountdown := 0 } ∧
     t.link.receiver = .hunt ∧ t.link.held = [] ∧ t.link.gap = 0 ∧ t.link.transmitter = none ∧
     t.link.learnedPeer = none ∧ (∀ p, t.view p = none) ∧ t.link.changePending = false ∧
     t.link.changeDue = false ∧ t.link.alarmSet = 0 ∧
     t.channel = { state := .closed 0, lastResult := .done } ∧
     t.port.cycle = s.port.cycle.map (fun h => { h with cls := none }) ∧
     (s.arbiter.inProgress = none → t.store = s.store) ∧
     (∀ src, (t.source src).mask = false ∧ (t.source src).cls = src.defaultClass) ∧ t.faults.hold = false ∧
     (if straps.site = 0 ∨ straps.site = 255 then
       t.faults.first = some { source := .peerIdentity, trunk := none, multiframe := 0 } ∧
         ∀ src, (t.source src).sticky = (src = .peerIdentity : Bool) ∧
           (t.source src).count = (if src = .peerIdentity then 1 else 0) ∧ (t.source src).lastTrunk = none
     else
       t.faults.first = none ∧
         ∀ src, (t.source src).sticky = false ∧ (t.source src).count = 0 ∧ (t.source src).lastTrunk = none) ∧
     t.image.state = .loading ∧
     (∀ p, match s.image.state with
       | .ready | .loading => t.slot p = s.slot p
       | .programming q _ => t.slot p = if p = q then .failing else s.slot p
       | .erasing => (s.slot p = .blank → t.slot p = .blank) ∧ (t.slot p = .blank ∨ t.slot p = .failing))) ∧
  (∀ (straps : Straps) (s : State) (a : Listed) (w : Word) (x y : Physical),
     s.storeSound → s.arbiter.inProgress = some (.processor (.write a w)) → s.landingSet a = [x, y] →
     ∃ t, exec (.powerOnReset straps 1) s = .next t ∧
       ∀ z, t.readWord z = if z = x then s.translateWrite w else s.readWord z) ∧
  (∀ (straps : Straps) (made : Nat) (s : State) (u : StoreUnit), s.arbiter.inProgress = some u →
     ∃ t, exec (.powerOnReset straps made) s = .next t ∧
       (made = 0 → t.store = s.store) ∧
       (made = 1 → (∃ p, u = .sweep .bridge p ∨ u = .sweep .roll p ∨ u = .sweep .unroll p) → t.store = s.store) ∧
       ((∃ p, u = .sweep .census p) ∨ (∃ a, u = .processor (.read a)) ∨ (∃ x, u = .processor (.raw x)) →
         t.store = s.store) ∧
       (2 ≤ made → (∀ kind p sw, u = .sweep kind p → s.sweepOf p = some sw → sw.kind = kind) →
         t.store = s.atBoundary.store))

/-- PRST lets the unit in progress run to its end, and then makes the control channel CLOSED with knock count 0, no
partial command, no pending response and last result DONE; it reaches no other block (R43, R56, R191, R199). Nothing
is due before it; where the store is free, the arbiter's next grant comes first. -/
def Obligations.ProcessorResetReachesTheChannelAlone : Prop :=
  ∀ s : State, s.somethingDue = false → ∃ t, exec .prst s = .next t ∧
    let u := if s.arbiter.inProgress = none then s.resume.finishUnit else s.finishUnit
    ({ u with channel := { state := .closed 0, lastResult := .done } } : State).resumed t

/-- IMAGE_PROGRAMMED and IMAGE_ERASED complete the operation in progress (R32, R33): slot p holds the content
that PIN fixed, with a good check value, or every slot is blank; the image is READY, and nothing else of the
part changes. -/
def Obligations.ImageOperationsComplete : Prop :=
  (∀ (s : State) (p : Port) (c : SlotRecord), s.somethingDue = false → s.image.state = .programming p c →
    ∃ t, exec .imageProgrammed s = .next t ∧
      ({ s with image := { state := .ready, slots := s.image.slots.set p.val (.good c) p.isLt } } :
        State).resumed t) ∧
  (∀ s : State, s.somethingDue = false → s.image.state = .erasing →
    ∃ t, exec .imageErased s = .next t ∧
      ({ s with image := { state := .ready, slots := Vector.replicate 64 .blank } } : State).resumed t)

/-- IMAGE_LOAD, started on a table that is all FREE (R34, R35, R36): every slot keeps its content and the image
becomes READY; a blank or failing slot, or one whose content fails a test of its own, leaves its record FREE; a
slot whose fibre port or circuit is already held by a slot installed before it is skipped; every other slot is
installed as a MIGRATED and PINNED record. IMAGE_RECORD is raised with its trunk for every slot that is not blank and
not installed, in ascending order; the fibre binding table holds the installed records and none elsewhere; and a cycle
held during the load is classed when it ends, and a store cycle granted. Nothing is written to the store. That the
installed fibre-alarm flag is no whatever the alarm set is the model's deduction (log 24), and that the timing unit
does not step in the load is its own too (log 21). -/
def Obligations.ImageLoadInstallsTheGoodSlots : Prop :=
  ∀ s : State, s.somethingDue = false → s.image.state = .loading → s.arbiter.inProgress = none →
    s.arbiter.waiting = none → s.sweeps = [] →
    (∀ p, s.trunk p = TrunkRecord.freeRecord) → (∀ F, s.boundTo F = none) →
    ∃ t, exec .imageLoad s = .next t ∧ t.image.state = .ready ∧ (∀ p, t.slot p = s.slot p) ∧
      t.store = s.store ∧ t.timing = s.timing ∧
      t = { s with trunks := t.trunks, fibreTable := t.fibreTable, image := t.image, faults := t.faults,
                   port := t.port, arbiter := t.arbiter } ∧
      (∀ F p, t.boundTo F = some p ↔ ∃ b, (t.trunk p).binding = some b ∧ b.fibre = F) ∧
      t.faults = s.collected
        ((allPorts.filter (fun p => s.slot p != .blank && (t.trunk p).binding.isNone)).map
          (fun p => (.imageRecord, some p))) ∧
      (match s.port.cycle with
        | some { cycle := c, cls := none } =>
          if cycleAddress c = windowAddress s.straps.win ∧ s.channelClosed = false then
            t.port = { s.port with cycle := some { cycle := c, cls := some .channel } } ∧ t.arbiter = s.arbiter
          else
            t.port = { s.port with cycle := some { cycle := c, cls := some .store } } ∧
              t.arbiter = { inProgress := some (.processor (cycleUnit c)), waiting := none, allowance := 0 }
        | _ => t.port = s.port ∧ t.arbiter = s.arbiter) ∧
      ∀ p, match s.slot p with
        | .blank | .failing => t.trunk p = TrunkRecord.freeRecord
        | .good c =>
          match mapOfBytes c.map.toList, fibrePortOf c.fibre.toNat with
          | some m, some F =>
            let skipped := c.copper ≠ p ∨ validMap m = false ∨
              ∃ q b, q < p ∧ (t.trunk q).binding = some b ∧ (b.fibre = F ∨ b.circuit = c.circuit)
            (skipped → t.trunk p = TrunkRecord.freeRecord) ∧
            (¬ skipped →
              t.boundTo F = some p ∧
              t.trunk p = { TrunkRecord.freeRecord with
                phase := .migrated, lock := .pinned, commit := true, groups := c.groups,
                binding := some { fibre := F, circuit := c.circuit, map := m, digest := mapDigest m,
                                  prepared := true, fibreAlarm := false } })
          | _, _ => t.trunk p = TrunkRecord.freeRecord

/-! ## The processor port and the arbiter -/

/-- PROCESSOR_CYCLE, with the port free and nothing due (R37, R44, R45): the port keeps the cycle and withholds
READY. During the power-on load the cycle has no class (R36); at the window with the channel not CLOSED it is a
channel cycle, which the store does not see (R41); any other cycle is a store cycle, whose unit waits for the
unit in progress, or is granted at once when the store is free and no sweep exists. -/
def Obligations.TakenCycleIsClassedOnce : Prop :=
  ∀ (s : State) (c : BusCycle), s.somethingDue = false → s.port.cycle = none →
    ∃ t, exec (.processorCycle c) s = .next t ∧
      (∃ cls, t.port = { s.port with cycle := some { cycle := c, cls := cls } } ∧
        cls = if s.image.state = .loading then none
              else if cycleAddress c = windowAddress s.straps.win ∧ s.channelClosed = false then some .channel
              else some .store) ∧
      t = { s with port := t.port, sweeps := t.sweeps, arbiter := t.arbiter } ∧
      t.sweepQueue = s.sweepQueue ∧
      (s.arbiter.inProgress ≠ none →
        t.arbiter =
          if s.image.state = .loading ∨
              (cycleAddress c = windowAddress s.straps.win ∧ s.channelClosed = false) then s.arbiter
          else { s.arbiter with waiting := some (cycleUnit c) }) ∧
      (s.image.state ≠ .loading → ¬(cycleAddress c = windowAddress s.straps.win ∧ s.channelClosed = false) →
        s.arbiter = { inProgress := none, waiting := none, allowance := s.arbiter.allowance } →
        s.sweeps = [] →
        t.arbiter = { inProgress := some (.processor (cycleUnit c)), waiting := none, allowance := 0 })

/-- The grant table (R45, R46): which party a free store goes to, and the allowance count after. The end of every event
that leaves the store free with nothing else to take (R79, R80, R90, R92, R94): the executing sweep is the first that
is eligible, it begins or switches to SCAN mode as its kind says, and the table decides between its unit, if one
remains, and the processor unit that waits. The row of a unit in progress ends it, the arbiter's waiting unit and its
allowance count kept, and the next grant follows. -/
def Obligations.ArbiterFollowsTheGrantTable : Prop :=
  (∀ (u : ProcessorUnit) (sw : Sweep) (n : Nat),
    ({ inProgress := none, waiting := none, allowance := n } : Arbiter).decide none =
      { inProgress := none, waiting := none, allowance := n } ∧
    ({ inProgress := none, waiting := some u, allowance := n } : Arbiter).decide none =
      { inProgress := some (.processor u), waiting := none, allowance := 0 } ∧
    ({ inProgress := none, waiting := none, allowance := n } : Arbiter).decide (some sw) =
      { inProgress := some (.sweep sw.kind sw.trunk), waiting := none, allowance := n } ∧
    ({ inProgress := none, waiting := some u, allowance := n } : Arbiter).decide (some sw) =
      if sw.kind.classA = true ∧ n ≤ 7 then
        { inProgress := some (.sweep sw.kind sw.trunk), waiting := some u, allowance := n + 1 }
      else { inProgress := some (.processor u), waiting := none, allowance := 0 }) ∧
  (∀ s : State, s.arbiter.inProgress = none → s.eventWaits = false →
    let executing := s.sweeps.find? (fun sw => sw.kind = .roll || sw.kind = .unroll || !s.faults.hold)
    (executing = none → s.resume = { s with arbiter := s.arbiter.decide none }) ∧
    (∀ sw, executing = some sw →
      let now := s.executes sw
      s.resume.executing = some now ∧
      s.resume = { s with sweeps := s.sweeps.map (fun old => if old = sw then now else old),
                          arbiter := s.resume.arbiter } ∧
      (now.unitRemains → s.resume.arbiter = s.arbiter.decide (some now)) ∧
      (¬ now.unitRemains → s.resume.arbiter = s.arbiter))) ∧
  (∀ (s : State) (u : StoreUnit), s.arbiter.inProgress = some u →
    exec u.row s = .next s.finishUnit.resume ∧ s.finishUnit.arbiter = { s.arbiter with inProgress := none })

/-- PROCESSOR_WRITE ends the write unit in progress (R11, R12, R38, R48): the translated word stands at every address
of the landing set, which follows the phase of the addressed port's record (R6): the copper word, the copper word and
the fibre copy, or the fibre copy alone, and every other word of the store is as before; a listener of a port in
ROLLING, ROLLED, RELEASING or MIGRATED is written with its fibre form, any other word with its listed source; READY is
given; and with two links free in the pool nothing is raised and no record changes. The listener index takes each write
as it lands (R62 to R65): with two links free the links are those of the reports in order, and an INDEX-mode sweep that
stands at a link which goes takes its successor (R93); a single write that names a talker when no link is free
overflows the talker's trunk (R67). -/
def Obligations.ProcessorWriteLandsOnItsLandingSet : Prop :=
  ∀ (s : State) (a : Listed) (w : Word), s.storeSound →
    s.arbiter.inProgress = some (.processor (.write a w)) →
    ∃ t, exec .processorWrite s = .next t ∧
      (∀ x, t.readWord x = if x ∈ s.landingSet a then s.translateWrite w else s.readWord x) ∧
      (s.phase (portOf a) ∈ [Phase.free, .bound, .census, .tracked, .unbridging] →
        s.landingSet a = [copperForm a]) ∧
      (∀ b, (s.trunk (portOf a)).binding = some b →
        (s.phase (portOf a) ∈ [Phase.bridging, .bridged, .armed, .rolling, .rolled, .unrolling] →
          s.landingSet a = [copperForm a, fibreForm b.fibre b.map (slotOf a)]) ∧
        (s.phase (portOf a) ∈ [Phase.releasing, .migrated] →
          s.landingSet a = [fibreForm b.fibre b.map (slotOf a)])) ∧
      (let m := listedMode w
       let n := listedSource w
       let inFibre : Prop := (m = .connect ∨ m = .monitor) ∧
         s.phase (portOf n) ∈ [Phase.rolling, .rolled, .releasing, .migrated]
       (∀ b, inFibre → (s.trunk (portOf n)).binding = some b →
         s.translateWrite w = physicalWord m (fibreForm b.fibre b.map (slotOf n))) ∧
       (¬ inFibre → s.translateWrite w = physicalWord m (copperForm n))) ∧
      t.port = { s.port with cycle := none } ∧
      t.straps = s.straps ∧ t.timing = s.timing ∧ t.image = s.image ∧ t.fibreTable = s.fibreTable ∧
      t.due = s.due ∧ t.draws = s.draws ∧ t.pending = s.pending ∧
      (s.links.length + 2 ≤ linkPoolSize →
        t.trunks = s.trunks ∧ t.faults = s.faults ∧ t.link = s.link ∧ t.armedList = s.armedList ∧
          t.sweepQueue = s.sweepQueue ∧
          t.links = (s.landingSet a).foldl (fun ls x => s.linksReported ls x (s.translateWrite w)) s.links) ∧
      (∀ x k, s.landingSet a = [x] → s.namedTalker (s.translateWrite w) = some k → s.linkAt x = none →
        linkPoolSize ≤ s.links.length →
        t.links = s.linksWithout k.port ∧ (t.trunk k.port).indexLost = true ∧
          t.source .indexOverflow = (s.source .indexOverflow).occurred (some k.port)) ∧
      (∀ x k sw, s.landingSet a = [x] → s.linkAt x = some { talker := k, listener := x } →
        s.namedTalker (s.translateWrite w) ≠ some k → s.links.length < linkPoolSize →
        (s.trunk k.port).indexLost = false → sw ∈ s.sweeps → sw.trunk = k.port →
        sw.cursor = .index (some (k.slot, x)) →
        { sw with cursor := .index (nextOfLists s.links k.port k.slot x) } ∈ t.sweeps)

/-- PROCESSOR_READ ends the read unit in progress (R13, R14, R15, R39, R49): the word at the address that the phase of
the port's record gives, the fibre copy in RELEASING and MIGRATED and the copper word in every other phase, is returned
in listed form with READY: a listener's source below 2048 as it is, the fibre form of slot k of the trunk q that its
fibre port is bound to as q × 32 + k, an IDLE or TONE source mod 2048; the store is as before, and a word that is
parity-good and not stray raises nothing. A parity-failed word is returned as read and counted at STORE_PARITY with no
trunk; a listener on an unbound fibre port returns source 2047 and is counted at STRAY_SOURCE. -/
def Obligations.ProcessorReadReturnsTheListedWord : Prop :=
  ∀ (s : State) (a : Listed), s.arbiter.inProgress = some (.processor (.read a)) →
    let w := s.readWord (s.readAddress a)
    ∃ t, exec .processorRead s = .next t ∧
      (s.phase (portOf a) ∉ [Phase.releasing, .migrated] → s.readAddress a = copperForm a) ∧
      (∀ b, s.phase (portOf a) ∈ [Phase.releasing, .migrated] → (s.trunk (portOf a)).binding = some b →
        s.readAddress a = fibreForm b.fibre b.map (slotOf a)) ∧
      (let x := physicalSource w
       let returns (n : Nat) : Prop :=
         s.translateRead w = listedWord (physicalMode w) (BitVec.ofNat 11 n) ∧ s.readIsStray w = false
       let listener : Prop := physicalMode w = .connect ∨ physicalMode w = .monitor
       (listener → x.toNat < 2048 → returns x.toNat) ∧
       (∀ q b k, listener → x = fibreForm b.fibre b.map k → s.boundTo b.fibre = some q →
         (s.trunk q).binding = some b → validMap b.map = true → returns (q.val * 32 + k.val)) ∧
       (∀ F j, listener → x = fibreChannel F j → s.boundTo F = none → s.readIsStray w = true) ∧
       (¬ listener → returns (x.toNat % 2048))) ∧
      t.port = { cycle := none, readData := s.translateRead w } ∧
      t.store = s.store ∧ t.timing = s.timing ∧ t.image = s.image ∧ t.links = s.links ∧
      (parityFailed w = false → s.readIsStray w = false →
        t = { s with port := t.port, channel := t.channel, sweeps := t.sweeps, arbiter := t.arbiter } ∧
          t.sweepQueue = s.sweepQueue) ∧
      (t.source .storeParity =
        if parityFailed w then (s.source .storeParity).occurred none else s.source .storeParity) ∧
      (t.source .straySource =
        if s.readIsStray w then (s.source .straySource).occurred none else s.source .straySource) ∧
      (s.readIsStray w = true → s.translateRead w = listedWord (physicalMode w) 2047)

/-- READ_STORE with target FFh tests its parameter: above 4095 it answers BADPARAM with no access; otherwise its
access waits at the arbiter, or is granted at once, READY stays withheld and nothing else changes (R54, R205).
READ_STORE_ACCESS then answers the raw word and its parity result, changes no word and raises no fault. -/
def Obligations.ReadStoreReturnsTheRawWord : Prop :=
  (∀ (s : State) (target : Byte) (params : List Word) (command : Word) (taken : List Word) (required : Nat),
    s.completes .readStore target params → targetOf target = .noRecord →
    s.channel.state = .collecting command taken required →
    ∃ t, exec .readStore s = .next t ∧
      if 4095 < (parameter params 0).toNat then s.refuses t .badParam
      else
        t = { s with channel := t.channel, sweeps := t.sweeps, arbiter := t.arbiter } ∧
        t.channel.state = .collecting command (taken ++ [parameter params 0]) required ∧
        t.sweepQueue = s.sweepQueue ∧
        (s.arbiter.inProgress ≠ none →
          t.arbiter = { s.arbiter with waiting := some (.raw ((parameter params 0).extractLsb' 0 12)) }) ∧
        (s.arbiter.inProgress = none → s.sweeps = [] → s.due = [] →
          t.arbiter = { inProgress := some (.processor (.raw ((parameter params 0).extractLsb' 0 12))),
                        waiting := none, allowance := 0 })) ∧
  (∀ (s : State) (x : Physical) (command : Word) (taken : List Word) (required : Nat),
    s.arbiter.inProgress = some (.processor (.raw x)) →
    s.channel.state = .collecting command taken required →
    ∃ t, exec .readStoreAccess s = .next t ∧
      s.answered t .done [s.readWord x, if oddOnes (s.readWord x) then 1 else 0] ∧
      t = { s with port := t.port, channel := t.channel, sweeps := t.sweeps, arbiter := t.arbiter } ∧
      t.sweepQueue = s.sweepQueue)

/-! ## Words, maps and translation -/

/-- The layout of the numbers and words of chapter 1 (R1, R3, R5, R9, section 11.8.1): a copper channel is p × 32 + k,
a listed channel is its own copper form, a fibre channel is F × 32 + j and a fibre form F × 32 + m(k). The output state
and the talker state of each phase (R6). Every word that the TC64 writes has an even number of ones, its ignored bit 0
and the parity content that makes it so, and its mode and source read back (R5, R48). A listed word that is written and
later read back under the same bindings is returned with its spare bits at 0, whatever has become of the phases
between, and no read of it is stray (R11, R14, R16); and a read takes a word that a write to the same address lands on
(R12, R13). The indexed talker that a word names (R61, R62): a listener of a slot of an index-active record that is not
index-lost, in copper or in fibre form. -/
def Obligations.WordsAndSourcesRoundTrip : Prop :=
  (∀ (p : Port) (F : FibrePort) (m : ChannelMap) (k : Slot) (n : Listed) (mode : Mode),
     let code := match mode with
       | .idle => 0 | .connect => 1 | .tone => 2 | .monitor => 3
     (copperChannel p k).toNat = p.val * 32 + k.val ∧ (fibreChannel F k).toNat = (64 + F.val) * 32 + k.val ∧
     (fibreForm F m k).toNat = (64 + F.val) * 32 + m[k].val ∧ (copperForm n).toNat = n.toNat ∧
     (portOf n).val = n.toNat / 32 ∧ (slotOf n).val = n.toNat % 32 ∧
     (listedWord mode n).toNat = code * 2048 + n.toNat ∧
     (∀ x : Physical, ((physicalWord mode x).extractLsb' 0 14).toNat = code * 4096 + x.toNat)) ∧
  (∀ ph : Phase,
     (ph.outputState = .native ↔ ph ∈ [Phase.free, .bound, .census, .tracked, .unbridging]) ∧
     (ph.outputState = .split ↔ ph ∈ [Phase.bridging, .bridged, .armed, .rolling, .rolled, .unrolling]) ∧
     (ph.outputState = .moved ↔ ph ∈ [Phase.releasing, .migrated]) ∧
     (ph.talkerState = .fibre ↔ ph ∈ [Phase.rolling, .rolled, .releasing, .migrated])) ∧
  (∀ (m : Mode) (x : Physical),
     parityFailed (physicalWord m x) = false ∧ physicalMode (physicalWord m x) = m ∧
     physicalSource (physicalWord m x) = x ∧ (physicalWord m x).getLsbD 14 = false ∧
     (physicalWord m x).getLsbD 15 = oddOnes ((physicalWord m x).extractLsb' 0 14 |>.setWidth 16)) ∧
  (∀ (s t : State) (w : Word) (a : Listed), s.bindingSound → t.bindingSound →
     (∀ p b, (s.trunk p).binding = some b →
       ∃ c, (t.trunk p).binding = some c ∧ c.fibre = b.fibre ∧ c.map = b.map) →
     t.translateRead (s.translateWrite w) = listedWord (listedMode w) (listedSource w) ∧
     t.readIsStray (s.translateWrite w) = false ∧
     s.readAddress a ∈ s.landingSet a) ∧
  (∀ (s : State) (w : Word) (q : Port) (k : Slot), s.bindingSound →
     (s.namedTalker w = some { port := q, slot := k } ↔
       (physicalMode w = .connect ∨ physicalMode w = .monitor) ∧
       (s.phase q).indexActive = true ∧ (s.trunk q).indexLost = false ∧
       (physicalSource w = copperChannel q k ∨
         ∃ b, (s.trunk q).binding = some b ∧ physicalSource w = fibreForm b.fibre b.map k)))

/-- The map digest (R10): the digest of a valid map lies within 6480 to 11440, the identity map alone has 11440,
and exchanging the images of two slots a and b changes the digest by (a − b) × (m(b) − m(a)). -/
def Obligations.MapDigestStaysWithinItsBounds : Prop :=
  ∀ m : ChannelMap,
    (validMap m = true → 6480 ≤ mapDigest m ∧ mapDigest m ≤ 11440 ∧ (mapDigest m = 11440 ↔ m = identityMap)) ∧
    (∀ a b : Slot, a ≠ b →
      (mapDigest ((m.set a.val m[b] a.isLt).set b.val m[a] b.isLt) : Int) =
        mapDigest m + ((a.val : Int) - b.val) * ((m[b].val : Int) - m[a].val))

/-! ## The fault collector -/

/-- One occurrence of a source (R180, R181, R182, R184): sticky flag, count up to 255 and last trunk, masked or not;
unmasked, the first-fault record is captured when it is absent, and class HOLD sets the hold flag. Mask, class and
every other source are kept, and no other block changes at the counting. -/
def Obligations.FaultOccurrenceIsCounted : Prop :=
  ∀ (s : State) (src : FaultSource) (trunk : Option Port),
    let f := s.source src
    let t := s.recordOccurrence src trunk
    t = { s with faults := t.faults } ∧
    (∀ other, t.source other =
      if other = src then
        { sticky := true, count := if f.count < 255 then f.count + 1 else f.count, lastTrunk := trunk, mask := f.mask,
          cls := f.cls }
      else s.source other) ∧
    t.faults.first =
      (if f.mask = true then s.faults.first
       else match s.faults.first with
        | some ff => some ff
        | none => some { source := src, trunk := trunk, multiframe := s.timing.multiframe }) ∧
    t.faults.hold = (s.faults.hold || (!f.mask && f.cls = .hold))

/-- The dispatch of fallback by an unmasked occurrence of class FALLBACK (R154, R185), at the unit boundary: with a
trunk it reaches that record alone, which an ARMED record leaves for BRIDGED and a ROLLING or uncommitted ROLLED one
for UNROLLING, while a committed one raises FALLBACK_BLOCKED; with none it reaches every uncommitted record in roll in
ascending order, and raises nothing. The records that fall back leave the armed list, their sweeps are replaced or
queued, and each change makes a beacon due. The occurrences that arose inside a store unit dispatch theirs at its end
(R178), one after another. -/
def Obligations.FallbackDispatchTakesRecordsBack : Prop :=
  (∀ (s : State) (src : FaultSource) (trunk : Option Port),
    (s.source src).mask = false → (s.source src).cls = .fallback →
    let u := (s.recordOccurrence src trunk).atBoundary
    let t := s.raise src trunk
    (∀ p, trunk = some p →
      match u.phase p, (u.trunk p).commit with
      | .armed, _ => u.moved t p (u.trunk p).fellBack (u.armedList.erase p) u.sweepQueue
      | .rolling, _ | .rolled, false => u.moved t p (u.trunk p).fellBack u.armedList (u.unrollQueue p)
      | .rolled, true | .releasing, _ | .migrated, _ => u.fallsBack t [] [(.fallbackBlocked, some p)]
      | _, _ => u.fallsBack t [] []) ∧
    (trunk = none → u.fallsBack t allPorts [])) ∧
  (∀ (u : State) (os : List Occurrence),
    u.fallsBack (u.dispatchAll os) (u.reachedBy os) (os.flatMap u.blockedBy))

/-- The ALERT output (R183): asserted while a source has its sticky flag set, its mask clear and a class of ALERT,
HOLD or FALLBACK, and carried by the status word; deasserted after power-on reset, unless PEER_IDENTITY at its end,
on a link that SITE 0 or 255 disables, asserts it. -/
def Obligations.AlertFollowsFlagsMasksAndClasses : Prop :=
  (∀ s : State,
    (s.alertLine = true ↔ ∃ src, (s.source src).sticky = true ∧ (s.source src).mask = false ∧
      ((s.source src).cls = .alert ∨ (s.source src).cls = .hold ∨ (s.source src).cls = .fallback)) ∧
    s.statusWord.getLsbD 6 = s.alertLine ∧ s.statusWord.getLsbD 5 = s.inHold) ∧
  State.reset.alertLine = false ∧
  (∀ (straps : Straps) (made : Nat) (s : State), ∃ t, exec (.powerOnReset straps made) s = .next t ∧
    (straps.site ≠ 0 → straps.site ≠ 255 → t.alertLine = false) ∧
    ((straps.site = 0 ∨ straps.site = 255) → t.alertLine = true))

/-! ## The session (R193 to R198) -/

/-- What a window write does in an open session (R193, R194, R198). In OPEN or ANSWERING a known code with parameters
is collected by COMMAND_WORD and a code without parameters is complete at once; in COLLECTING each word but the last
joins the command by PARAMETER_WORD, and the last completes it; READY is given, and nothing else changes.
UNKNOWN_COMMAND answers an UNKNOWN header with no words and counts CHANNEL_PROTOCOL (here of another class than
FALLBACK, or masked); CLOSE, whatever its target, closes the session with knock count 0 and last result DONE and forms
no response, when the unit in progress ends, before the next grant (R41, R43). A channel cycle waits for the end of an
event that is being taken (log 1). -/
def Obligations.SessionTakesWindowWrites : Prop :=
  (∀ (s : State) (a : Listed) (w : Word),
     s.port.cycle = some { cycle := .write a w, cls := some .channel } → s.rawPending = false → s.due = [] →
     (∀ k, (s.channel.state = .opened ∨ ∃ words n, s.channel.state = .answering words n) →
       commandOfCode (highByte w) = some k →
       (0 < k.parameterWords →
         ∃ t, exec .commandWord s = .next t ∧
           t.channel = { s.channel with state := .collecting w [] k.parameterWords } ∧
           t.port = { s.port with cycle := none } ∧
           t = { s with port := t.port, channel := t.channel, sweeps := t.sweeps, arbiter := t.arbiter } ∧
           t.sweepQueue = s.sweepQueue) ∧
       (k.parameterWords = 0 → s.completes k (lowByte w) [])) ∧
     (∀ k command taken required, s.channel.state = .collecting command taken required →
       (taken.length + 1 < required →
         ∃ t, exec .parameterWord s = .next t ∧
           t.channel = { s.channel with state := .collecting command (taken ++ [w]) required } ∧
           t.port = { s.port with cycle := none } ∧
           t = { s with port := t.port, channel := t.channel, sweeps := t.sweeps, arbiter := t.arbiter } ∧
           t.sweepQueue = s.sweepQueue) ∧
       (required ≤ taken.length + 1 → commandOfCode (highByte command) = some k →
         s.completes k (lowByte command) (taken ++ [w])))) ∧
  (∀ (s : State) (a : Listed) (w : Word),
     s.port.cycle = some { cycle := .write a w, cls := some .channel } → s.rawPending = false → s.due = [] →
     (s.channel.state = .opened ∨ ∃ words n, s.channel.state = .answering words n) →
     (commandOfCode (highByte w) = none → s.dispatches .channelProtocol = false →
       ∃ t, exec .unknownCommand s = .next t ∧ s.answered t .unknown [] ∧
         t.faults = (s.recordOccurrence .channelProtocol none).faults ∧
         t = { s with port := t.port, channel := t.channel, faults := t.faults, sweeps := t.sweeps,
                      arbiter := t.arbiter } ∧
         t.sweepQueue = s.sweepQueue) ∧
     (highByte w = 0x7F →
       let u := s.atBoundary
       ∃ t, exec .close s = .next t ∧ t.channel = { state := .closed 0, lastResult := .done } ∧
         t.port = { u.port with cycle := none } ∧
         t = { u with port := t.port, channel := t.channel, sweeps := t.sweeps, arbiter := t.arbiter } ∧
         t.sweepQueue = u.sweepQueue))

/-- The knock (R192): in CLOSED a served window read raises the knock count and the fourth opens the session; a served
window write or any other access sets it to 0; in every other state the report of a served store cycle changes nothing
in the channel. CHANNEL_READ (R193, R194, R196): OPEN returns the status word; ANSWERING returns the word at the read
position and moves on, to OPEN after the last; COLLECTING abandons the command, counts CHANNEL_PROTOCOL (here of
another class than FALLBACK, or masked), and returns a status word that carries ABANDONED. A channel cycle waits for
the end of an event that is being taken (log 1). -/
def Obligations.SessionOpensAndAnswersReads : Prop :=
  (∀ (s : State) (a : Listed),
     (s.arbiter.inProgress = some (.processor (.read a)) →
       ∃ t, exec .processorRead s = .next t ∧
         t.channel = { s.channel with state :=
           match s.channel.state with
           | .closed k =>
             if a = windowAddress s.straps.win then (if k < 3 then .closed (k + 1) else .opened) else .closed 0
           | other => other }) ∧
     (∀ w, s.arbiter.inProgress = some (.processor (.write a w)) →
       ∃ t, exec .processorWrite s = .next t ∧
         t.channel = { s.channel with state :=
           match s.channel.state with
           | .closed _ => .closed 0
           | other => other })) ∧
  (∀ (s : State) (a : Listed),
     s.port.cycle = some { cycle := .read a, cls := some .channel } → s.rawPending = false → s.due = [] →
     (s.channel.state = .opened →
       ∃ t, exec .channelRead s = .next t ∧ t.port = { cycle := none, readData := s.statusWord } ∧
         t = { s with port := t.port, sweeps := t.sweeps, arbiter := t.arbiter } ∧
         t.sweepQueue = s.sweepQueue) ∧
     (∀ words n w, s.channel.state = .answering words n → words[n]? = some w →
       ∃ t, exec .channelRead s = .next t ∧ t.port = { cycle := none, readData := w } ∧
         t.channel = { s.channel with
           state := if n + 1 = words.length then .opened else .answering words (n + 1) } ∧
         t = { s with port := t.port, channel := t.channel, sweeps := t.sweeps, arbiter := t.arbiter } ∧
         t.sweepQueue = s.sweepQueue) ∧
     (∀ command taken required, s.channel.state = .collecting command taken required →
       s.dispatches .channelProtocol = false →
       ∃ t, exec .channelRead s = .next t ∧ t.channel = { state := .opened, lastResult := .abandoned } ∧
         t.port = { cycle := none, readData := t.statusWord } ∧
         t.faults = (s.recordOccurrence .channelProtocol none).faults ∧
         t = { s with port := t.port, channel := t.channel, faults := t.faults, sweeps := t.sweeps,
                      arbiter := t.arbiter } ∧
         t.sweepQueue = s.sweepQueue))

/-! ## What every command tests first -/

/-- A command with a target that it does not accept, or with a group target that has no member, answers BADTARGET (R20,
R200). A LOCKED or PINNED record refuses START, BRIDGE, ROLL, RELEASE, ABORT, RECENSUS, AUTO, GROUPS and UNBIND with
LOCKED, in hold too and in every phase (R27); an UNLOCKED record refuses START, BRIDGE, ROLL, RELEASE and RECENSUS with
HELD in hold (R117, R184). Nothing changes. A refused command takes effect at once (R41): the unit in progress goes on,
and the arbiter and the sweeps stay as they are. That a response whose members all refuse is a refusal, and that one
with COMMITTED counts FALLBACK_BLOCKED at once, is the model's choice (log 29). -/
def Obligations.RefusalsAnswerFirst : Prop :=
  (∀ (s : State) (c : Command) (target : Byte) (params : List Word), s.completes c target params →
     (c.accepts (targetOf target) = false → ∃ t, exec c.row s = .next t ∧ s.refuses t .badTarget) ∧
     (c ∈ groupCommands → s.members (targetOf target) = [] →
       ∃ t, exec c.row s = .next t ∧ s.refuses t .badTarget)) ∧
  (∀ (s : State) (c : Command) (target : Byte) (params : List Word) (p : Port),
     s.completes c target params → targetOf target = .copper p →
     (c ∈ lockedCommands → (s.trunk p).lock ≠ .unlocked →
       ∃ t, exec c.row s = .next t ∧ s.refuses t .locked) ∧
     (c ∈ heldCommands → (s.trunk p).lock = .unlocked → s.inHold = true →
       ∃ t, exec c.row s = .next t ∧ s.refuses t .held)) ∧
  (∀ (s : State) (c : Command) (target : Byte) (params : List Word), s.completes c target params →
     Answer.refused (c.answer target params s) = true → s.arbiter.inProgress ≠ none →
     ∃ t, exec c.row s = .next t ∧
       s.answered t (c.answer target params s).2.1 (c.answer target params s).2.2 ∧
       t = { s with port := t.port, channel := t.channel, faults := (c.answer target params s).1.faults })

/-- A command with a group target acts on each member in ascending port order, each against the state that the members
before it left, as if it were given that member's port as target (R20, R21): the response is a header, whose result is
the members' common one or MIXED, and one word for each member with its port and its result. A command that passes its
tests while a store unit is in progress meets them again when the unit ends (log 28); a group whose members all refuse
is answered at once (log 29). -/
def Obligations.GroupCommandActsOnEachMember : Prop :=
  ∀ (s : State) (c : Command) (target : Byte) (params : List Word) (one : State → Port → State × Result),
    s.completes c target params → c.onRecord params = some one →
    (targetOf target = .allBound ∨ ∃ g, targetOf target = .group g) →
    let u := s.foundBy c target params
    let ps := u.members (targetOf target)
    let before (i : Nat) : State := afterMembers one u (ps.take i)
    ps ≠ [] →
    ps.Pairwise (· < ·) ∧
    (∀ p, p ∈ ps ↔ (u.trunk p).binding ≠ none ∧ ∀ g, targetOf target = .group g → g ∈ (u.trunk p).groups) ∧
    ∃ t r words, exec c.row s = .next t ∧ (before ps.length).answers t r words ∧
      words.length = ps.length ∧
      (∀ i p, ps[i]? = some p → words[i]? = some (memberWord p (one (before i) p).2)) ∧
      ((∀ i p, ps[i]? = some p → (one (before i) p).2 = r) ∨
        (r = .mixed ∧ ∀ r', ∃ i p, ps[i]? = some p ∧ (one (before i) p).2 ≠ r'))

/-! ## The commands of the trunk table and the image -/

/-- BIND's map words (R22 (5), section 11.8.3): slots 0 and 16 stay in place, and the 30 given bytes are the entries of
slots 1–15 and 17–31 in order, two to a word, the earlier slot in the low byte. BIND of a copper port (R19, R22, R23):
its tests in order, and for a BIND that passes them the record BOUND and not prepared, its digest computed, its
fibre-alarm flag that of the alarm set, the fibre port's entry set, and a PREPARE sweep at the end of class B. A
command that passes its tests while a store unit is in progress meets them again when the unit ends (log 28). -/
def Obligations.BindMakesTheRecordBound : Prop :=
  (∀ params : List Word, params.length = 17 →
     (bindEntries params).length = 32 ∧ (bindEntries params)[0]? = some 0 ∧ (bindEntries params)[16]? = some 16 ∧
     ∀ n, n < 30 →
       (bindEntries params)[if n < 15 then n + 1 else n + 2]? =
         (params[2 + n / 2]?).map (fun w => if n % 2 = 0 then lowByte w else highByte w)) ∧
  (∀ (s : State) (target : Byte) (params : List Word) (p : Port),
     s.completes .bind target params → targetOf target = .copper p →
     let u := s.foundBy .bind target params
     let r := u.trunk p
     let fibre := (lowByte (parameter params 0)).toNat
     let circuit := parameter params 1
     let identity := (parameter params 0).getLsbD 15
     let given (m : ChannelMap) : Prop :=
       validMap m = true ∧
         (if identity = true then m = identityMap
          else ∀ k : Slot, (bindEntries params)[k.val]? = some (BitVec.ofNat 8 m[k].val))
     ∃ t, exec .bind s = .next t ∧
       (r.phase ≠ .free → u.refuses t .state) ∧
       (r.phase = .free → ¬ (64 ≤ fibre ∧ fibre ≤ 127) → u.refuses t .badParam) ∧
       (∀ F : FibrePort, r.phase = .free → F.number = fibre →
         let conflict := u.boundTo F ≠ none ∨ ∃ q b, (u.trunk q).binding = some b ∧ b.circuit = circuit
         (conflict → u.refuses t .conflict) ∧
         (¬ conflict → (∀ m, ¬ given m) → u.refuses t .map) ∧
         (∀ m, ¬ conflict → given m →
           u.answered t .accepted [] ∧
           u.recordChanged t p
             { r with
               phase := .bound, commit := false, indexLost := false, autoLead := none, rollRequest := none,
               releaseRequest := false,
               binding := some { fibre := F, circuit := circuit, map := m, digest := mapDigest m,
                                 prepared := false, fibreAlarm := u.link.alarmSet.getLsbD F.val } } ∧
           (∀ G, t.boundTo G = if G = F then some p else u.boundTo G) ∧
           t.sweepQueue = joinQueue u.sweepQueue .prepare p ∧
           t = { u with trunks := t.trunks, fibreTable := t.fibreTable, sweeps := t.sweeps, port := t.port,
                        channel := t.channel, arbiter := t.arbiter })))

/-- UNBIND and GROUPS of a copper port (R19, R25, R26): UNBIND of an UNLOCKED BOUND record leaves it FREE, its entry in
the fibre binding table none and its sweep cancelled; GROUPS of an UNLOCKED bound record sets the distinct group
numbers of the four nibbles, ascending, and refuses a nibble of 7h–Eh with BADPARAM. A command that passes its tests
while a store unit is in progress meets them again when the unit ends (log 28). -/
def Obligations.UnbindAndGroupsActOnTheRecord : Prop :=
  ∀ (s : State) (target : Byte) (params : List Word) (p : Port), targetOf target = .copper p →
    (s.completes .unbind target params →
      let u := s.foundBy .unbind target params
      let r := u.trunk p
      r.lock = .unlocked → ∃ t, exec .unbind s = .next t ∧
      (r.phase ≠ .bound → u.refuses t .state) ∧
      (∀ b, r.phase = .bound → r.binding = some b →
        u.answered t .done [] ∧ u.recordChanged t p TrunkRecord.freeRecord ∧
        (∀ F, t.boundTo F = if F = b.fibre then none else u.boundTo F) ∧
        t.sweepQueue = u.queueWithout p ∧
        t = { u with trunks := t.trunks, fibreTable := t.fibreTable, sweeps := t.sweeps, port := t.port,
                     channel := t.channel, arbiter := t.arbiter })) ∧
    (s.completes .groups target params →
      let u := s.foundBy .groups target params
      let r := u.trunk p
      r.lock = .unlocked → ∃ t, exec .groups s = .next t ∧
      let nibble (i : Nat) : Nat := ((parameter params 0).extractLsb' (4 * i) 4).toNat
      (r.phase = .free → u.refuses t .state) ∧
      (r.phase ≠ .free → (∃ i < 4, 7 ≤ nibble i ∧ nibble i ≤ 14) → u.refuses t .badParam) ∧
      (r.phase ≠ .free → (∀ i < 4, nibble i ≤ 6 ∨ nibble i = 15) →
        ∃ gs : List (Fin 7), gs.Pairwise (· < ·) ∧ (∀ g, g ∈ gs ↔ ∃ i < 4, nibble i = g.val) ∧
          u.takes t .done p { r with groups := gs }))

/-- LOCK and UNLOCK, of a copper port or of a group (R29): on a FREE record STATE; on a bound record LOCK answers DONE
and leaves LOCKED, or PINNED as it was; UNLOCK answers DONE and leaves UNLOCKED, but answers LOCKED for a PINNED
record, which it leaves; neither is refused in hold, and no item but the lock changes. The header of a group response
carries the members' common result, or MIXED. A command that passes its tests while a store unit is in progress meets
them again when the unit ends (log 28); an UNLOCK of a group whose members are all PINNED is answered before the unit
ends, the model's choice (log 29). -/
def Obligations.LockAndUnlockFollowTheTable : Prop :=
  ∀ (s : State) (target : Byte) (params : List Word),
    let locked (r : TrunkRecord) : TrunkRecord :=
      if r.phase = .free ∨ r.lock = .pinned then r else { r with lock := .locked }
    let unlocked (r : TrunkRecord) : TrunkRecord :=
      if r.phase = .free ∨ r.lock = .pinned then r else { r with lock := .unlocked }
    let lockResult (r : TrunkRecord) : Result := if r.phase = .free then .state else .done
    let unlockResult (r : TrunkRecord) : Result :=
      if r.phase = .free then .state else if r.lock = .pinned then .locked else .done
    let outcome (u t : State) (change : TrunkRecord → TrunkRecord) (result : TrunkRecord → Result) : Prop :=
      let ps := u.members (targetOf target)
      (∀ q, t.trunk q = if q ∈ ps then change (u.trunk q) else u.trunk q) ∧
      t = { u with trunks := t.trunks, sweeps := t.sweeps, port := t.port, channel := t.channel,
                   arbiter := t.arbiter } ∧
      t.sweepQueue = u.sweepQueue ∧
      (∀ p, targetOf target = .copper p → u.answered t (result (u.trunk p)) []) ∧
      ((targetOf target = .allBound ∨ ∃ g, targetOf target = .group g) →
        ∃ r, u.answered t r (ps.map (fun q => memberWord q (result (u.trunk q)))) ∧
          (∀ r', (∀ q ∈ ps, result (u.trunk q) = r') → r = r') ∧
          ((∃ q ∈ ps, ∃ q' ∈ ps, result (u.trunk q) ≠ result (u.trunk q')) → r = .mixed))
    (s.completes .lock target params →
      (s.foundBy .lock target params).members (targetOf target) ≠ [] → ∃ t, exec .lock s = .next t ∧
      outcome (s.foundBy .lock target params) t locked lockResult) ∧
    (s.completes .unlock target params →
      (s.foundBy .unlock target params).members (targetOf target) ≠ [] → ∃ t, exec .unlock s = .next t ∧
      outcome (s.foundBy .unlock target params) t unlocked unlockResult)

/-- PIN of a copper port and ERASE_IMAGE (R30, R31, R33): PIN answers STATE outside MIGRATED, BUSY while the image is
busy, DONE for a slot that holds the live record, STATE for a slot that holds anything else, and ACCEPTED for a blank
one, which makes the record PINNED and the image PROGRAMMING with the record's content; ERASE_IMAGE answers BUSY while
the image is busy, else ACCEPTED, and the image is ERASING. A command that passes its tests while a store unit is in
progress meets them again when the unit ends (log 28). -/
def Obligations.PinAndEraseStartImageOperations : Prop :=
  (∀ (s : State) (target : Byte) (params : List Word) (p : Port),
    s.completes .pin target params → targetOf target = .copper p →
    let u := s.foundBy .pin target params
    let r := u.trunk p
    ∃ t, exec .pin s = .next t ∧
      (r.phase ≠ .migrated → u.refuses t .state) ∧
      (∀ b, r.phase = .migrated → r.binding = some b →
        let content : SlotRecord :=
          { copper := p, fibre := BitVec.ofNat 8 b.fibre.number, circuit := b.circuit,
            map := b.map.map (fun j => BitVec.ofNat 8 j.val), groups := r.groups }
        (u.image.state ≠ .ready → u.refuses t .busy) ∧
        (u.image.state = .ready → u.slot p = .good content → u.refuses t .done) ∧
        (u.image.state = .ready → u.slot p ≠ .blank → u.slot p ≠ .good content → u.refuses t .state) ∧
        (u.image.state = .ready → u.slot p = .blank →
          u.answered t .accepted [] ∧ u.recordChanged t p { r with lock := .pinned } ∧
          t.image = { u.image with state := .programming p content } ∧
          t = { u with trunks := t.trunks, image := t.image, sweeps := t.sweeps, port := t.port,
                       channel := t.channel, arbiter := t.arbiter } ∧
          t.sweepQueue = u.sweepQueue))) ∧
  (∀ (s : State) (target : Byte) (params : List Word),
    s.completes .eraseImage target params → targetOf target = .noRecord →
    let u := s.foundBy .eraseImage target params
    ∃ t, exec .eraseImage s = .next t ∧
      (u.image.state ≠ .ready → u.refuses t .busy) ∧
      (u.image.state = .ready →
        ({ u with image := { u.image with state := .erasing } } : State).answers t .accepted []))

/-! ## The cutover commands -/

/-- START, BRIDGE and RECENSUS of an UNLOCKED copper port out of hold (R70, R117, R118, R119, R124): START takes a
prepared BOUND record while fewer than 8 are announced, else answers STATE or LIMIT; BRIDGE takes a TRACKED record with
no sweep, RECENSUS a TRACKED or BRIDGED one, else STATE. The record enters CENSUS or BRIDGING, or keeps its phase with
its links freed and its index-lost flag cleared, and its sweep joins the end of class B. A command that passes its
tests while a store unit is in progress meets them again when the unit ends (log 28). -/
def Obligations.StartBridgeAndRecensusQueueTheirSweeps : Prop :=
  (∀ (s : State) (target : Byte) (params : List Word) (p : Port), targetOf target = .copper p →
     (s.completes .start target params →
       let u := s.foundBy .start target params
       let r := u.trunk p
       r.lock = .unlocked → u.inHold = false → ∃ t, exec .start s = .next t ∧
       let prepared : Prop := r.phase = .bound ∧ ∃ b, r.binding = some b ∧ b.prepared = true
       (¬ prepared → u.refuses t .state) ∧
       (prepared → 8 ≤ u.announcedCount → u.refuses t .limit) ∧
       (prepared → u.announcedCount < 8 → u.answered t .accepted [] ∧ u.started t p)) ∧
     (s.completes .bridge target params →
       let u := s.foundBy .bridge target params
       let r := u.trunk p
       r.lock = .unlocked → u.inHold = false → ∃ t, exec .bridge s = .next t ∧
       (r.phase ≠ .tracked ∨ u.hasSweep p = true → u.refuses t .state) ∧
       (r.phase = .tracked → u.hasSweep p = false →
         u.answered t .accepted [] ∧
         u.moved t p { r with phase := .bridging } u.armedList (joinQueue u.sweepQueue .bridge p)))) ∧
  (∀ (s : State) (target : Byte) (params : List Word) (p : Port),
     s.completes .recensus target params → targetOf target = .copper p →
     let u := s.foundBy .recensus target params
     let r := u.trunk p
     r.lock = .unlocked → u.inHold = false →
     ∃ t, exec .recensus s = .next t ∧
       ((r.phase ≠ .tracked ∧ r.phase ≠ .bridged) ∨ u.hasSweep p = true → u.refuses t .state) ∧
       (r.phase = .tracked ∨ r.phase = .bridged → u.hasSweep p = false →
         u.answered t .accepted [] ∧ u.recordChanged t p { r with indexLost := false } ∧
         t.links = u.linksWithout p ∧ t.sweepQueue = joinQueue u.sweepQueue .census p ∧
         t = { u with trunks := t.trunks, links := t.links, sweeps := t.sweeps, port := t.port,
                      channel := t.channel, arbiter := t.arbiter }))

/-- ROLL and RELEASE record a request, and AUTO sets or clears the auto lead (R107, R117, R121, R122, R123), each in
the phases that take it, else STATE; a lead of 0 becomes 1 and one above 16384 becomes 16384, with CLAMPED; AUTO with a
first parameter above 1 answers BADPARAM, and is not refused in hold. A command that passes its tests while a store
unit is in progress meets them again when the unit ends (log 28). -/
def Obligations.RequestsAndAutoAreRecorded : Prop :=
  ∀ (s : State) (target : Byte) (params : List Word) (p : Port), targetOf target = .copper p →
    let clamped (lead : Nat) : Nat := if lead = 0 then 1 else if 16384 < lead then 16384 else lead
    (s.completes .roll target params →
      let u := s.foundBy .roll target params
      let r := u.trunk p
      r.lock = .unlocked → u.inHold = false → ∃ t, exec .roll s = .next t ∧
      let lead := (parameter params 0).toNat
      if r.phase = .bridging ∨ r.phase = .bridged then
        u.takes t (if clamped lead = lead then .accepted else .clamped) p
          { r with rollRequest := some (clamped lead) }
      else u.refuses t .state) ∧
    (s.completes .release target params →
      let u := s.foundBy .release target params
      let r := u.trunk p
      r.lock = .unlocked → u.inHold = false → ∃ t, exec .release s = .next t ∧
      if r.phase = .rolling ∨ r.phase = .rolled then u.takes t .accepted p { r with releaseRequest := true }
      else u.refuses t .state) ∧
    (s.completes .auto target params →
      let u := s.foundBy .auto target params
      let r := u.trunk p
      r.lock = .unlocked → ∃ t, exec .auto s = .next t ∧
      let setting := (parameter params 0).toNat
      let lead := (parameter params 1).toNat
      if 1 < setting then u.refuses t .badParam
      else if setting = 1 then
        if r.phase ∈ [.bound, .census, .tracked, .bridging, .bridged, .armed, .rolling, .rolled] then
          u.takes t (if clamped lead = lead then .done else .clamped) p { r with autoLead := some (clamped lead) }
        else u.refuses t .state
      else if r.binding ≠ none then u.takes t .done p { r with autoLead := none }
      else u.refuses t .state)

/-- DISARM and FALLBACK of a copper port, locked or not, in hold or not (R143 to R147): an ARMED record returns to
BRIDGED without its epoch and its roll request, FALLBACK clearing auto too; FALLBACK takes a ROLLING or an uncommitted
ROLLED record to UNROLLING towards BRIDGED, and answers COMMITTED for a committed one, with FALLBACK_BLOCKED counted
for its trunk; else STATE. A command that passes its tests while a store unit is in progress meets them again when the
unit ends (log 28); COMMITTED is answered and counted at once (log 29). -/
def Obligations.DisarmAndFallbackReturnTheRecord : Prop :=
  ∀ (s : State) (target : Byte) (params : List Word) (p : Port), targetOf target = .copper p →
    (s.completes .disarm target params → ∃ t, exec .disarm s = .next t ∧
      let u := s.foundBy .disarm target params
      let r := u.trunk p
      if r.phase = .armed then
        u.answered t .done [] ∧
        u.moved t p { r with phase := .bridged, epoch := none, rollRequest := none } (u.armedList.erase p)
          u.sweepQueue
      else u.refuses t .state) ∧
    (s.completes .fallback target params → ∃ t, exec .fallback s = .next t ∧
      let u := s.foundBy .fallback target params
      let r := u.trunk p
      if r.phase = .armed then
        u.answered t .done [] ∧
        u.moved t p { r with phase := .bridged, epoch := none, rollRequest := none, autoLead := none }
          (u.armedList.erase p) u.sweepQueue
      else if r.phase = .rolling ∨ (r.phase = .rolled ∧ r.commit = false) then
        u.answered t .accepted [] ∧
        u.moved t p
          { r with phase := .unrolling, undo := some .bridged, autoLead := none, releaseRequest := false,
                   soak := none }
          u.armedList (u.unrollQueue p)
      else if r.phase = .rolled ∨ r.phase = .releasing ∨ r.phase = .migrated then
        (u.recordOccurrence .fallbackBlocked (some p)).answers t .committed []
      else u.refuses t .state)

/-- ABORT of an UNLOCKED copper port, in hold or not (R83, R84, R148 to R151): what it answers and does in each phase.
A command that passes its tests while a store unit is in progress meets them again when the unit ends (log 28). -/
def Obligations.AbortActsByPhase : Prop :=
  ∀ (s : State) (target : Byte) (params : List Word) (p : Port),
    s.completes .abort target params → targetOf target = .copper p →
    let u := s.foundBy .abort target params
    let r := u.trunk p
    r.lock = .unlocked →
    ∃ t, exec .abort s = .next t ∧
      match r.phase with
      | .free => u.refuses t .state
      | .bound =>
        if u.hasSweep p = true then
          u.answered t .accepted [] ∧ t.sweepQueue = u.queueWithout p ∧
            t = { u with sweeps := t.sweeps, port := t.port, channel := t.channel, arbiter := t.arbiter }
        else u.refuses t .state
      | .census | .tracked =>
        u.answered t .done [] ∧ u.recordChanged t p { r with phase := .bound, indexLost := false } ∧
          t.sweepQueue = u.queueWithout p ∧ t.links = u.linksWithout p ∧
          (∀ q, t.view q = if q = p then none else u.view q) ∧
          t.link = { u.link with views := t.link.views, changePending := true } ∧
          t = { u with trunks := t.trunks, links := t.links, link := t.link, sweeps := t.sweeps, port := t.port,
                       channel := t.channel, arbiter := t.arbiter }
      | .bridging | .bridged | .armed =>
        u.answered t .accepted [] ∧
          u.moved t p { r with phase := .unbridging, undo := some .bound, epoch := none, rollRequest := none }
            (u.armedList.erase p) (joinQueue (u.queueWithout p) .unbridge p)
      | .rolling =>
        u.answered t .accepted [] ∧
          u.moved t p { r with phase := .unrolling, undo := some .bound, releaseRequest := false, soak := none }
            u.armedList (u.unrollQueue p)
      | .rolled =>
        if r.commit = true then u.refuses t .committed
        else
          u.answered t .accepted [] ∧
            u.moved t p { r with phase := .unrolling, undo := some .bound, releaseRequest := false, soak := none }
              u.armedList (u.unrollQueue p)
      | .releasing | .migrated => u.refuses t .committed
      | .unrolling =>
        if r.undo = some .bridged then u.takes t .accepted p { r with undo := some .bound }
        else u.refuses t .done
      | .unbridging => u.refuses t .done

/-! ## The device-wide commands -/

/-- HOLD and CLEAR_HOLD, with target FFh (R79, R82, R188): DONE, the hold flag set or clear, no fault raised and
ALERT as it was; in hold no class B sweep executes, and out of hold every sweep is eligible. -/
def Obligations.HoldAndClearHoldSetTheFlag : Prop :=
  ∀ (s : State) (target : Byte) (params : List Word), targetOf target = .noRecord →
    (s.completes .hold target params → ∃ t, exec .hold s = .next t ∧
      let u := s.atBoundary
      ({ u with faults := { u.faults with hold := true } } : State).answers t .done [] ∧
      t.alertLine = u.alertLine ∧ ∀ sw, t.executing = some sw → sw.kind.classA = true) ∧
    (s.completes .clearHold target params → ∃ t, exec .clearHold s = .next t ∧
      let u := s.atBoundary
      ({ u with faults := { u.faults with hold := false } } : State).answers t .done [] ∧
      t.alertLine = u.alertLine ∧ ∀ sw, t.eligible sw = true)

/-- CLEAR_FAULTS (R187): with a target other than FFh BADTARGET and nothing changed; else DONE, every sticky flag
clear, every count 0, every last trunk none, the first-fault record absent and ALERT deasserted, in hold and out of it,
with masks, classes, the hold flag and everything that earlier occurrences did kept. -/
def Obligations.ClearFaultsClearsEverySource : Prop :=
  ∀ (s : State) (target : Byte) (params : List Word), s.completes .clearFaults target params →
    let u := s.foundBy .clearFaults target params
    ∃ t, exec .clearFaults s = .next t ∧
      (targetOf target ≠ .noRecord → u.refuses t .badTarget) ∧
      (targetOf target = .noRecord →
        u.answered t .done [] ∧
        (∀ src, t.source src = { u.source src with sticky := false, count := 0, lastTrunk := none }) ∧
        t.faults.first = none ∧ t.faults.hold = u.faults.hold ∧ t.alertLine = false ∧
        t = { u with faults := t.faults, port := t.port, channel := t.channel, sweeps := t.sweeps,
                     arbiter := t.arbiter } ∧
        t.sweepQueue = u.sweepQueue)

/-- SET_ACTION (R189): a target other than FFh answers BADTARGET, a source number of 0 or above 16 BADPARAM; else the
named source takes the mask and class given, with DONE, but FALLBACK for FALLBACK_BLOCKED becomes HOLD, with CLAMPED;
nothing else of the collector changes, and no class action is taken. -/
def Obligations.SetActionSetsMaskAndClass : Prop :=
  ∀ (s : State) (target : Byte) (params : List Word), s.completes .setAction target params →
    let u := s.foundBy .setAction target params
    let number := ((parameter params 0).extractLsb' 0 5).toNat
    let cls : FaultClass := match ((parameter params 0).extractLsb' 8 2).toNat with
      | 0 => .record | 1 => .alert | 2 => .hold | _ => .fallback
    ∃ t, exec .setAction s = .next t ∧
      (targetOf target ≠ .noRecord → u.refuses t .badTarget) ∧
      (targetOf target = .noRecord → number = 0 ∨ 16 < number → u.refuses t .badParam) ∧
      (∀ src : FaultSource, targetOf target = .noRecord → src.number = number →
        let clamped : Prop := src = .fallbackBlocked ∧ cls = .fallback
        u.answered t (if clamped then .clamped else .done) [] ∧
        (∀ other, t.source other =
          if other = src then
            { u.source src with mask := (parameter params 0).getLsbD 7, cls := if clamped then .hold else cls }
          else u.source other) ∧
        t.faults.first = u.faults.first ∧ t.faults.hold = u.faults.hold ∧
        t = { u with faults := t.faults, port := t.port, channel := t.channel, sweeps := t.sweeps,
                     arbiter := t.arbiter } ∧
        t.sweepQueue = u.sweepQueue)

/-- SET_TIMING with target FFh (R112): the five settings take their clamped values together, and the answer is CLAMPED
if clamping changed any of them; nothing else of the timing unit changes. -/
def Obligations.SetTimingClampsTheFiveSettings : Prop :=
  ∀ (s : State) (target : Byte) (params : List Word),
    s.completes .setTiming target params → targetOf target = .noRecord →
    let u := s.foundBy .setTiming target params
    let trim := (parameter params 0).toInt
    let mantissa := (lowByte (parameter params 1)).toNat
    let exponent := (highByte (parameter params 1)).toNat
    let period := (parameter params 2).toNat
    let limit := (parameter params 3).toNat
    let timing : Timing := { u.timing with
      trim := if trim < -3 then -3 else if 4 < trim then 4 else trim,
      soakMantissa := if mantissa = 0 then 1 else mantissa,
      soakExponent := if 15 < exponent then 15 else exponent,
      beaconPeriod := if period < 4 then 4 else if 255 < period then 255 else period,
      silenceLimit := if limit = 0 then 1 else if 15 < limit then 15 else limit }
    ∃ t, exec .setTiming s = .next t ∧
      ({ u with timing := timing } : State).answers t
        (if timing.trim = trim ∧ timing.soakMantissa = mantissa ∧ timing.soakExponent = exponent ∧
            timing.beaconPeriod = period ∧ timing.silenceLimit = limit then .done else .clamped) []

/-! ## The queries -/

/-- STATUS with target FFh answers DONE with the 13 words of section 11.8.4 and changes nothing (R202). -/
def Obligations.StatusReportsTheDevice : Prop :=
  ∀ (s : State) (target : Byte) (params : List Word),
    s.completes .status target params → targetOf target = .noRecord →
    let u := s.foundBy .status target params
    ∃ t w1 w4 w5 w6, exec .status s = .next t ∧
      u.answers t .done
        [w1, u.timing.multiframe, BitVec.ofInt 16 u.timing.trim, w4, w5, w6, BitVec.ofNat 16 u.freeCount,
         BitVec.ofNat 16 u.timing.silenceCountdown, u.link.alarmSet.extractLsb' 0 16,
         u.link.alarmSet.extractLsb' 16 16, u.link.alarmSet.extractLsb' 32 16, u.link.alarmSet.extractLsb' 48 16,
         u.straps.win ++ u.straps.baud ++ u.straps.site] ∧
      (w1.extractLsb' 0 3).toNat = (match u.timing.sync with
        | .search => 0 | .locked => 1 | .flywheel => 2 | .adrift => 3 | .stopped => 4) ∧
      w1.getLsbD 8 = u.faults.hold ∧ w1.getLsbD 9 = u.alertLine ∧
      (w1.extractLsb' 12 2).toNat = (match u.image.state with
        | .ready => 0 | .loading => 1 | .programming _ _ => 2 | .erasing => 3) ∧
      (u.timing.soakMantissa < 256 → u.timing.soakExponent < 256 →
        (lowByte w4).toNat = u.timing.soakMantissa ∧ (highByte w4).toNat = u.timing.soakExponent) ∧
      (u.timing.beaconPeriod < 256 → u.timing.silenceLimit < 256 →
        (lowByte w5).toNat = u.timing.beaconPeriod ∧ (highByte w5).toNat = u.timing.silenceLimit) ∧
      lowByte w6 = u.link.learnedPeer.getD 0 ∧ w6.getLsbD 8 = (0 < u.timing.silenceCountdown : Bool) ∧
      w6.getLsbD 9 = (u.straps.site = 0 || u.straps.site = 255) ∧
      (u.announcedCount < 16 → (w6.extractLsb' 12 4).toNat = u.announcedCount)

/-- QUERY_TRUNK of a copper port answers DONE in every phase with 17 words, changes nothing but the model's count of
free values drawn (log 7), and reports the items of the record, its groups, its index count, its sweep and its view as
they stand, the executing sweep as begun (R77, R84), with their marks of presence (R203, section 11.8.5). That the bit
of an absent one-bit flag is clear (lingering outside MIGRATED, SCAN mode of a sweep without a mode and of no sweep) is
the model's deduction (log 23). -/
def Obligations.QueryTrunkReportsTheRecord : Prop :=
  ∀ (s : State) (target : Byte) (params : List Word) (p : Port),
    s.completes .queryTrunk target params → targetOf target = .copper p →
    let u := s.foundBy .queryTrunk target params
    let r := u.trunk p
    let code (ph : Phase) : Nat := match ph with
      | .free => 0 | .census => 1 | .tracked => 2 | .bridging => 3 | .bridged => 4 | .armed => 5 | .rolling => 6
      | .rolled => 7 | .releasing => 8 | .migrated => 9 | .unrolling => 10 | .unbridging => 11 | .bound => 12
    ∃ t words, exec .queryTrunk s = .next t ∧
      ({ u with draws := u.draws + 1 } : State).answers t .done words ∧ words.length = 17 ∧
      (∃ w, words[0]? = some w ∧ (w.extractLsb' 0 4).toNat = code r.phase ∧
        (w.extractLsb' 4 2).toNat = (match r.lock with | .unlocked => 0 | .locked => 1 | .pinned => 2) ∧
        (∀ b, r.binding = some b → w.getLsbD 6 = b.prepared ∧ w.getLsbD 8 = b.fibreAlarm) ∧
        w.getLsbD 7 = r.commit ∧ w.getLsbD 9 = r.indexLost ∧ w.getLsbD 10 = r.lingering ∧
        w.getLsbD 11 = r.autoLead.isSome ∧ w.getLsbD 12 = r.rollRequest.isSome ∧
        w.getLsbD 13 = r.releaseRequest ∧
        (w.extractLsb' 14 2).toNat = (match r.undo with | none => 0 | some .bridged => 1 | some .bound => 2)) ∧
      (∀ b, r.binding = some b →
        words[1]? = some (BitVec.ofNat 16 b.fibre.number) ∧ words[2]? = some b.circuit ∧
          words[3]? = some (BitVec.ofNat 16 b.digest)) ∧
      (r.binding = none → words[1]? = some 0 ∧ words[3]? = some 0) ∧
      (∃ w, words[4]? = some w ∧ ∀ i < 4, (w.extractLsb' (4 * i) 4).toNat =
        (match r.groups[i]? with | some g => g.val | none => 15)) ∧
      words[5]? = some (BitVec.ofNat 16 (r.rollRequest.getD 0)) ∧
      words[6]? = some (BitVec.ofNat 16 (r.autoLead.getD 0)) ∧
      (∀ e, r.epoch = some e → words[7]? = some e) ∧ (∀ m, r.rollStart = some m → words[8]? = some m) ∧
      (∀ n, r.soak = some n → words[9]? = some (BitVec.ofNat 16 n) ∧
        words[10]? = some (BitVec.ofNat 16 (n / 65536) &&& 0x007F)) ∧
      words[11]? = some (BitVec.ofNat 16 (u.links.filter (fun l => l.talker.port = p)).length) ∧
      (∃ w, words[12]? = some w ∧
        (∀ sw, u.sweepOf p = some sw →
          (w.extractLsb' 0 3).toNat = (match sw.kind with
            | .prepare => 1 | .census => 2 | .bridge => 3 | .roll => 4 | .unroll => 5 | .release => 6
            | .unbridge => 7) ∧
          (w.getLsbD 3 = true ↔ ∃ e, u.executing = some e ∧ e.trunk = p) ∧
          ∃ now, now = (if w.getLsbD 3 = true then u.executes sw else sw) ∧
            (w.getLsbD 4 = true ↔ ∃ second n, now.cursor = .scan second n) ∧
            (w.getLsbD 5 = true ↔ (∃ second n, now.cursor = .scan second n) ∨ ∃ c, now.cursor = .index c)) ∧
        (u.sweepOf p = none → (w.extractLsb' 0 6).toNat = 0) ∧
        w.getLsbD 8 = r.rollStart.isSome ∧ w.getLsbD 9 = r.epoch.isSome ∧ w.getLsbD 10 = r.soak.isSome ∧
        w.getLsbD 11 = r.binding.isSome) ∧
      (∀ sw, u.sweepOf p = some sw → words[13]? = some (BitVec.ofNat 16 sw.unitsDone)) ∧
      (u.sweepOf p = none → words[13]? = some 0) ∧
      (∃ w, words[14]? = some w ∧ w.getLsbD 8 = (u.view p).isSome ∧
        ∀ v, u.view p = some v →
          (w.extractLsb' 0 4).toNat = (match v.phase with
            | .none => 0 | .absent => 15 | .listed ph => code ph) ∧
          w.getLsbD 4 = v.commit ∧ w.getLsbD 5 = v.alarm ∧ w.getLsbD 6 = v.peerReleased ∧
          w.getLsbD 7 = (0 < u.timing.silenceCountdown : Bool) ∧ w.getLsbD 9 = v.digest.isSome ∧
          w.getLsbD 10 = v.heardAt.isSome) ∧
      (∀ v d, u.view p = some v → v.digest = some d → words[15]? = some d) ∧
      (∀ v m, u.view p = some v → v.heardAt = some m → words[16]? = some m)

/-- QUERY_FAULTS with target FFh answers DONE with 34 words, clears nothing, and reports the 16 sources in number order
and the first-fault record (R204, section 11.8.6). QUERY_INDEX of a copper port (R74, R206): a slot above 31 answers
BADPARAM; else DONE with the listener addresses of the first 64 links of the talker's list, oldest first, the more-flag
in the 64th word when the list holds more. -/
def Obligations.QueryFaultsAndQueryIndexReport : Prop :=
  (∀ (s : State) (target : Byte) (params : List Word),
     s.completes .queryFaults target params → targetOf target = .noRecord →
     let u := s.foundBy .queryFaults target params
     ∃ t words, exec .queryFaults s = .next t ∧
       ({ u with draws := u.draws + 1 } : State).answers t .done words ∧ words.length = 34 ∧
       (∀ src : FaultSource, ∃ w c, words[2 * src.number - 2]? = some w ∧ words[2 * src.number - 1]? = some c ∧
         ((u.source src).count ≤ 255 → (lowByte w).toNat = (u.source src).count ∧
           w.getLsbD 15 = (u.source src).sticky ∧ w.getLsbD 14 = (u.source src).lastTrunk.isSome ∧
           ∀ p, (u.source src).lastTrunk = some p → (w.extractLsb' 8 6).toNat = p.val) ∧
         (c.extractLsb' 0 2).toNat = (match (u.source src).cls with
             | .record => 0 | .alert => 1 | .hold => 2 | .fallback => 3) ∧
         c.getLsbD 2 = (u.source src).mask) ∧
       ∃ w m, words[32]? = some w ∧ words[33]? = some m ∧
         (u.faults.first = none → (w.extractLsb' 0 5).toNat = 0) ∧
         (∀ ff, u.faults.first = some ff → (w.extractLsb' 0 5).toNat = ff.source.number ∧
           w.getLsbD 14 = ff.trunk.isSome ∧ (∀ p, ff.trunk = some p → (w.extractLsb' 8 6).toNat = p.val) ∧
           m = ff.multiframe)) ∧
  (∀ (s : State) (target : Byte) (params : List Word) (p : Port),
     s.completes .queryIndex target params → targetOf target = .copper p →
     let u := s.foundBy .queryIndex target params
     let slot := (parameter params 0).toNat
     ∃ t, exec .queryIndex s = .next t ∧
       (31 < slot → u.refuses t .badParam) ∧
       (∀ k : Slot, slot = k.val →
         let links := u.links.filter (fun l => l.talker = { port := p, slot := k })
         ∃ words, u.answers t .done words ∧ words.length = min 64 links.length ∧
           ∀ (i : Nat) (l : Link), i < 64 → links[i]? = some l →
             words[i]? = some (if i = 63 ∧ 64 < links.length then l.listener.setWidth 16 ||| 0x8000
                               else l.listener.setWidth 16)))

/-! ## Store units of sweeps -/

/-- PREPARE_UNIT, RELEASE_UNIT and UNBRIDGE_UNIT (R78, R85, R87, R89): a unit for slot k writes the idle word at the
fibre word of slot k for PREPARE and UNBRIDGE, at the copper word of slot k for RELEASE; the link at that address
goes, no other word changes, nothing is raised, and the sweep goes on to slot k + 1. -/
def Obligations.IdlingUnitsWriteTheIdleWord : Prop :=
  ∀ (s : State) (p : Port) (sw : Sweep) (b : Binding) (k : Slot),
    s.storeSound → s.sweepUnit p sw b → sw.cursor = .slot k.val →
    let ends (t : State) (x : Physical) : Prop :=
      (∀ y, t.readWord y = if y = x then idleWord else s.readWord y) ∧
        t.links = s.links.filter (fun l => l.listener != x) ∧ s.unitEnded t p sw (.slot (k.val + 1))
    (sw.kind = .prepare → ∃ t, exec .prepareUnit s = .next t ∧ ends t (fibreChannel b.fibre k)) ∧
    (sw.kind = .release → ∃ t, exec .releaseUnit s = .next t ∧ ends t (copperChannel p k)) ∧
    (sw.kind = .unbridge → ∃ t, exec .unbridgeUnit s = .next t ∧ ends t (fibreChannel b.fibre k))

/-- BRIDGE_UNIT for slot k (R49, R85, R88): the copper word is read, and its fibre copy becomes the same mode and
source with fresh parity, the source of an IDLE or TONE word mod 2048, or the idle word for a parity-failed word,
which is counted at STORE_PARITY with the trunk; no other word changes. The copy is reported to the listener index
(R63 to R65). -/
def Obligations.BridgeUnitCopiesTheCopperWord : Prop :=
  ∀ (s : State) (p : Port) (sw : Sweep) (b : Binding) (k : Slot),
    s.storeSound → s.sweepUnit p sw b → sw.kind = .bridge → sw.cursor = .slot k.val →
    let w := s.readWord (copperChannel p k)
    let copy := if parityFailed w then idleWord
      else if (physicalMode w).listens then physicalWord (physicalMode w) (physicalSource w)
      else physicalWord (physicalMode w) (physicalSource w &&& 0x7FF)
    ∃ t, exec .bridgeUnit s = .next t ∧
      (∀ y, t.readWord y = if y = fibreForm b.fibre b.map k then copy else s.readWord y) ∧
      t.source .storeParity =
        (if parityFailed w then (s.source .storeParity).occurred (some p) else s.source .storeParity) ∧
      (parityFailed w = false → s.links.length < linkPoolSize → s.unitEnded t p sw (.slot (k.val + 1)) ∧
        t.links = s.linksReported s.links (fibreForm b.fibre b.map k) copy)

/-- CENSUS_UNIT at a position of its census set, listed 0 to 2047 and then the slots of each fibre port of the set
(R66, R67, R85, R90): the store is as before; a parity-good word that names an indexed talker of the trunk and has no
link gets one at the tail of its list, or with no link free the trunk overflows: index-lost, its links freed,
INDEX_OVERFLOW counted. A parity-failed word is counted at STORE_PARITY. -/
def Obligations.CensusUnitGathersTheListener : Prop :=
  ∀ (s : State) (p : Port) (sw : Sweep) (b : Binding) (n : Nat) (x : Physical),
    s.sweepUnit p sw b → sw.kind = .census → sw.cursor = .census n → sw.scanSet ≠ none →
    x = scanAddress sw.ports n →
    let w := s.readWord x
    let gathers (k : Slot) : Prop := parityFailed w = false ∧
      s.namedTalker w = some { port := p, slot := k } ∧ s.linkAt x = none
    (n < 2048 → x.toNat = n) ∧
    (∀ i F k, n = 2048 + 32 * i + k → k < 32 → sw.ports[i]? = some F → x.toNat = (64 + F.val) * 32 + k) ∧
    ∃ t, exec .censusUnit s = .next t ∧ t.store = s.store ∧
      t.source .storeParity =
        (if parityFailed w then (s.source .storeParity).occurred (some p) else s.source .storeParity) ∧
      (∀ k, gathers k → s.links.length < linkPoolSize →
        t.links = s.links ++ [{ talker := { port := p, slot := k }, listener := x }] ∧
          s.unitEnded t p sw (.census (n + 1))) ∧
      (∀ k, gathers k → linkPoolSize ≤ s.links.length →
        t.links = s.linksWithout p ∧ (t.trunk p).indexLost = true ∧
          t.source .indexOverflow = (s.source .indexOverflow).occurred (some p)) ∧
      (parityFailed w = false → (∀ k, ¬ gathers k) →
        t.links = s.links ∧ s.unitEnded t p sw (.census (n + 1)))

/-- ROLL_UNIT and UNROLL_UNIT (R49, R85, R91, R92, R94): the word at the cursor is rewritten when it is a parity-good
listener of a slot that the unit covers, in the form that the sweep turns: copper to fibre for ROLL, fibre to copper
for UNROLL; any other word stays as it is. A unit covers the slot of its list in INDEX mode, slot 16 in the first pass
of SCAN mode, every other slot in the second; the positions of its scan set are listed 0 to 2047 and then the slots of
each fibre port of the set. The rewrite is reported to the listener index (R63 to R65), which keeps the word's link in
place. The cursor then goes on (R78, R92, R93, R94): in INDEX mode to the next link of the list, or the head of the
next list in order that has one; in SCAN mode to the next position, from the last of the first pass to the first of the
second. -/
def Obligations.RollAndUnrollUnitsRewriteTheListener : Prop :=
  ∀ (s : State) (p : Port) (sw : Sweep) (b : Binding) (x : Physical) (covers : Slot → Prop),
    s.storeSound → s.sweepUnit p sw b → validMap b.map = true →
    ((∃ j, sw.cursor = .index (some (j, x)) ∧ covers = (fun k => k = j)) ∨
      (∃ second n, sw.cursor = .scan second n ∧ x = scanAddress sw.ports n ∧
        covers = (fun k => if second = true then k ≠ 16 else k = 16))) →
    let w := s.readWord x
    let turns (k : Slot) (form : Physical) : Prop :=
      covers k ∧ parityFailed w = false ∧ (physicalMode w).listens = true ∧ physicalSource w = form
    let ends (t : State) (old new : Slot → Physical) : Prop :=
      (∀ y, y ≠ x → t.readWord y = s.readWord y) ∧
      (∀ k, turns k (old k) → t.readWord x = physicalWord (physicalMode w) (new k)) ∧
      ((∀ k, ¬ turns k (old k)) → t.readWord x = w ∧ t.links = s.links) ∧
      t.source .storeParity =
        (if parityFailed w then (s.source .storeParity).occurred (some p) else s.source .storeParity) ∧
      (parityFailed w = false → s.links.length < linkPoolSize →
        t = { s with store := t.store, links := t.links, sweeps := t.sweeps, arbiter := t.arbiter } ∧
        t.sweepQueue = s.queueCounted p ∧
        (∀ k, turns k (old k) →
          t.links = s.linksReported s.links x (physicalWord (physicalMode w) (new k))) ∧
        (∀ second n, sw.cursor = .scan second n → t.sweepOf p = some { sw.counted with
          cursor := if second = false ∧ 2048 + 32 * sw.ports.length ≤ n + 1 then .scan true 0
                    else .scan second (n + 1) }) ∧
        (∀ j, sw.cursor = .index (some (j, x)) → s.bindingSound → s.followed p = true →
          s.linkAt x = some { talker := { port := p, slot := j }, listener := x } →
          t.links = s.links ∧
            t.sweepOf p = some { sw.counted with cursor := .index (nextOfLists s.links p j x) }))
    (∀ second n, sw.cursor = .scan second n →
      (n < 2048 → x.toNat = n) ∧
      ∀ i F k, n = 2048 + 32 * i + k → k < 32 → sw.ports[i]? = some F → x.toNat = (64 + F.val) * 32 + k) ∧
    (sw.kind = .roll → ∃ t, exec .rollUnit s = .next t ∧
      ends t (copperChannel p) (fibreForm b.fibre b.map)) ∧
    (sw.kind = .unroll → ∃ t, exec .unrollUnit s = .next t ∧
      ends t (fibreForm b.fibre b.map) (copperChannel p))

/-- The completions (R24, R71, R86, R108, R116, R120, R133, R136, R152, R153): the completed sweep leaves the queue and
its record goes on, or back by its undo target; a completed RELEASE or UNBRIDGE frees the links. A completion finds the
executing sweep with no unit remaining at the unit boundary, with no command waiting for that boundary and no event
still to be taken to its end (log 1). -/
def Obligations.CompletionsMoveTheRecord : Prop :=
  (∀ (s : State) (sw : Sweep),
     let u := s.finishUnit.engine
     let p := sw.trunk
     let r := u.trunk p
     u.completed = some sw → s.channelAct = none → s.due = [] →
     (sw.kind = .prepare → ∃ t, exec .prepareCompletion s = .next t ∧
       u.recordChanged t p { r with binding := r.binding.map (fun b => { b with prepared := true }) } ∧
       t.sweepQueue = u.queueWithout p ∧
       t = { u with trunks := t.trunks, sweeps := t.sweeps, arbiter := t.arbiter }) ∧
     (sw.kind = .census → ∃ t, exec .censusCompletion s = .next t ∧
       (r.phase = .census → u.movedAlone t p { r with phase := .tracked } u.armedList (u.queueWithout p)) ∧
       (r.phase ≠ .census → t.sweepQueue = u.queueWithout p ∧
         t = { u with sweeps := t.sweeps, arbiter := t.arbiter })) ∧
     (sw.kind = .bridge → r.phase = .bridging → ∃ t, exec .bridgeCompletion s = .next t ∧
       u.movedAlone t p { r with phase := .bridged } u.armedList (u.queueWithout p)) ∧
     (sw.kind = .roll → r.phase = .rolling → ∃ t, exec .rollCompletion s = .next t ∧
       u.movedAlone t p
         { r with phase := .rolled, commit := false,
                  soak := some (u.timing.soakMantissa * 2 ^ u.timing.soakExponent) }
         u.armedList (u.queueWithout p)) ∧
     (sw.kind = .release → r.phase = .releasing → ∃ t, exec .releaseCompletion s = .next t ∧
       u.recordChanged t p { r with phase := .migrated, lingering := true, autoLead := none, indexLost := false } ∧
       t.sweepQueue = u.queueWithout p ∧ t.links = u.linksWithout p ∧
       t.link = { u.link with changePending := true } ∧
       t = { u with trunks := t.trunks, links := t.links, link := t.link, sweeps := t.sweeps,
                    arbiter := t.arbiter })) ∧
  (∀ (s : State) (sw : Sweep),
     let u := s.finishUnit.engine
     let p := sw.trunk
     let r := u.trunk p
     u.completed = some sw → s.channelAct = none → s.due = [] →
     (sw.kind = .unroll → r.phase = .unrolling → ∃ t, exec .unrollCompletion s = .next t ∧
       (r.undo = some .bridged →
         u.movedAlone t p { r with phase := .bridged, undo := none, rollStart := none } u.armedList
           (u.queueWithout p)) ∧
       (r.undo = some .bound →
         u.movedAlone t p { r with phase := .unbridging, rollStart := none } u.armedList
           (joinQueue (u.queueWithout p) .unbridge p))) ∧
     (sw.kind = .unbridge → r.phase = .unbridging → ∃ t, exec .unbridgeCompletion s = .next t ∧
       u.recordChanged t p { r with phase := .bound, undo := none, rollStart := none, indexLost := false } ∧
       t.sweepQueue = u.queueWithout p ∧ t.links = u.linksWithout p ∧
       (∀ q, t.view q = if q = p then none else u.view q) ∧
       t.link = { u.link with views := t.link.views, changePending := true } ∧
       t = { u with trunks := t.trunks, links := t.links, link := t.link, sweeps := t.sweeps,
                    arbiter := t.arbiter }))

/-! ## Timing -/

/-- FS_PULSE with nothing due (R99 to R105): a pulse with MFS aligns the counters and locks, and off time, or moving
the boundary from ADRIFT, raises SYNC_REALIGN; a pulse without MFS advances f and the interval count, up to 64, and
makes due the miss or the entry to ADRIFT that the interval count reaches; f at 0 makes a boundary due; in STOPPED the
pulse is taken as one in SEARCH with the interval count at 0. That SYNC_REALIGN is raised before the boundary of the
same pulse, so that a first fault holds M before the increment, is the model's choice (log 15). -/
def Obligations.FramePulseStepsTheCounters : Prop :=
  ∀ s : State, s.quiet →
    let sync := if s.timing.sync = .stopped then SyncState.search else s.timing.sync
    let n := min 64 ((if s.timing.sync = .stopped then 0 else s.timing.interval) + 1)
    let a := BitVec.ofInt 4 (16 - s.timing.trim)
    let f := s.timing.frame + 1
    let realigns : Prop := (sync = .locked ∧ n ≠ 16) ∨ (sync = .flywheel ∧ n % 16 ≠ 0) ∨ (sync = .adrift ∧ a ≠ f)
    (∃ t, exec (.fsPulse false) s = .next t ∧
      t.timing = { s.timing with sync := sync, frame := f, interval := n } ∧
      t.due =
        (if (sync = .search ∨ sync = .flywheel) ∧ n = 64 then [.adriftEntry]
         else if (sync = .locked ∧ n = 16) ∨ (sync = .flywheel ∧ (n = 32 ∨ n = 48)) then [.mfsMiss]
         else []) ++ (if f = 0 then [.boundary] else []) ∧
      t = { s with timing := t.timing, due := t.due, sweeps := t.sweeps, arbiter := t.arbiter } ∧
      t.sweepQueue = s.sweepQueue) ∧
    (∃ t, exec (.fsPulse true) s = .next t ∧
      let u : State := { s.resume with
        timing := { s.timing with sync := .locked, frame := a, interval := 0 },
        due := if a = 0 then [.boundary] else [] }
      (realigns → u.raisesAt t .syncRealign none) ∧ (¬ realigns → u.resumed t))

/-- MFS_MISS leaves FLYWHEEL, ADRIFT_ENTRY leaves ADRIFT with SYNC_LOSS counted, and FS_ABSENCE leaves STOPPED with
SYNC_LOSS counted, or nothing changed in STOPPED (R101 to R105); no counter and no timer moves. SYNC_LOSS is
here of another class than FALLBACK, or masked. -/
def Obligations.SyncStatesFollowMissesAndAbsence : Prop :=
  ∀ s : State,
    (Due.mfsMiss ∈ s.due → ∃ t, exec .mfsMiss s = .next t ∧
      ({ s with timing := { s.timing with sync := .flywheel }, due := s.due.erase .mfsMiss } : State).resumed t) ∧
    (Due.adriftEntry ∈ s.due → s.dispatches .syncLoss = false → ∃ t, exec .adriftEntry s = .next t ∧
      ({ s with timing := { s.timing with sync := .adrift }, due := s.due.erase .adriftEntry,
                faults := (s.recordOccurrence .syncLoss none).faults } : State).resumed t) ∧
    (s.quiet → s.dispatches .syncLoss = false → ∃ t, exec .fsAbsence s = .next t ∧
      (if s.timing.sync = .stopped then s.resumed t
       else
        ({ s with timing := { s.timing with sync := .stopped },
                  faults := (s.recordOccurrence .syncLoss none).faults } : State).resumed t))

/-- MULTIFRAME_BOUNDARY, the one event due (R99, R109, R110, R111, R125, R134, R164, R172, R173): M increments mod
65536, the countdowns and the soak remainders of ROLLED records fall by one while above 0, the gap count rises within a
frame, change pending makes change due, and the events of the boundary fall due, the steps of the evaluation among
them, as the boundary leaves the part: the commits of the soaks that expire, the returns of ARMED records, the steps of
the records in ascending port order, and the start of one roll (R115, R128, R131). That the steps come in this one
order, the expiries and the returns before the steps of the records and the roll start after them, is the model's
choice (log 10). -/
def Obligations.BoundaryStepsEveryTimer : Prop :=
  ∀ s : State, s.due = [.boundary] → ∃ t, exec .multiframeBoundary s = .next t ∧
    t.timing = { s.timing with
      multiframe := s.timing.multiframe + 1, beaconCountdown := s.timing.beaconCountdown - 1,
      silenceCountdown := s.timing.silenceCountdown - 1 } ∧
    (∀ p, t.trunk p =
      if s.phase p = .rolled then { s.trunk p with soak := (s.trunk p).soak.map (fun n => n - 1) }
      else s.trunk p) ∧
    t.link = { s.link with
      changeDue := s.link.changeDue || s.link.changePending, changePending := false,
      gap := if s.link.receiver = .hunt then s.link.gap else s.link.gap + 1 } ∧
    t = { s with timing := t.timing, trunks := t.trunks, link := t.link, due := t.due, sweeps := t.sweeps,
                 arbiter := t.arbiter } ∧
    t.sweepQueue = s.sweepQueue ∧
    (Due.peerSilent ∈ t.due ↔ s.timing.silenceCountdown = 1) ∧
    (∀ p, Due.soakExpiry p ∈ t.due ↔ s.phase p = .rolled ∧ (s.trunk p).soak = some 1) ∧
    (Due.gapExpiry ∈ t.due ↔ t.link.receiver ≠ .hunt ∧ 3 ≤ t.link.gap) ∧
    (Due.beaconCountdownExpiry ∈ t.due ↔ s.timing.beaconCountdown = 1) ∧
    (Due.beaconTransmit ∈ t.due ↔ s.timing.beaconCountdown = 0 ∨ t.link.changeDue = true) ∧
    (∀ p, (Due.autoStart p ∈ t.due ↔ t.wantsAutoStart p = true) ∧
      (Due.autoBridge p ∈ t.due ↔ t.wantsAutoBridge p = true) ∧
      (∀ l, Due.arming p l ∈ t.due ↔ t.wantsArming p = true ∧ l = (t.trunk p).lead) ∧
      (Due.returnToBridged p ∈ t.due ↔ t.wantsReturn p = true) ∧
      (Due.releaseAtBoundary p ∈ t.due ↔ t.wantsRelease p = true)) ∧
    (∀ p, Due.rollStart p ∈ t.due ↔ t.rollCandidate = some p) ∧
    t.due.filter Due.inEvaluation =
      (allPorts.filter (fun p => s.phase p = .rolled && (s.trunk p).soak = some 1)).map Due.soakExpiry ++
      (allPorts.filter t.wantsReturn).map Due.returnToBridged ++
      allPorts.flatMap (fun p =>
        (if t.wantsAutoStart p = true then [.autoStart p] else []) ++
        (if t.wantsAutoBridge p = true then [.autoBridge p] else []) ++
        (if t.wantsArming p = true then [.arming p (t.trunk p).lead] else []) ++
        (if t.wantsRelease p = true then [.releaseAtBoundary p] else [])) ++
      (match t.rollCandidate with
        | some p => [.rollStart p]
        | none => [])

/-! ## The boundary evaluation -/

/-- When the roll gate and the release gate are open, and when the boundary evaluation takes an auto START, an auto
BRIDGE, an arming, a return to BRIDGED, a roll start and a release for a record: the steps only for an UNLOCKED record
out of hold (R28, R106, R125 to R131, R135). With no class A sweep, the record that rolls is the first of the armed
list whose epoch is reached and whose gate is open (R131); an arming takes the lead of the roll request, or else the
auto lead (R129). -/
def Obligations.GatesOpenAsStated : Prop :=
  ∀ (s : State) (p : Port),
    let r := s.trunk p
    let free : Prop := s.faults.hold = false ∧ r.lock = .unlocked
    let reached : Prop := ∃ e, r.epoch = some e ∧ (s.timing.multiframe - e).toNat < 32768
    (s.rollGate p = true ↔
      (r.phase = .bridged ∨ r.phase = .armed) ∧ s.faults.hold = false ∧ 0 < s.timing.silenceCountdown ∧
      ∃ b v ph d, r.binding = some b ∧ s.view p = some v ∧ b.fibreAlarm = false ∧ v.phase = .listed ph ∧
        ph ∈ [Phase.bridged, .armed, .rolling, .rolled, .releasing, .migrated, .unrolling] ∧
        v.alarm = false ∧ v.digest = some d ∧ d.toNat = b.digest) ∧
    (s.releaseGate p = true ↔
      r.commit = true ∧ s.faults.hold = false ∧ 0 < s.timing.silenceCountdown ∧
      ∃ v, s.view p = some v ∧
        ((v.phase = .listed .rolled ∧ v.commit = true) ∨ v.phase = .listed .releasing ∨
          v.phase = .listed .migrated)) ∧
    (s.wantsAutoStart p = true ↔
      free ∧ r.phase = .bound ∧ (∃ b, r.binding = some b ∧ b.prepared = true) ∧ r.autoLead ≠ none) ∧
    (s.wantsAutoBridge p = true ↔ free ∧ r.phase = .tracked ∧ r.autoLead ≠ none ∧ s.hasSweep p = false) ∧
    (s.wantsArming p = true ↔
      free ∧ r.phase = .bridged ∧ s.hasSweep p = false ∧ (r.rollRequest ≠ none ∨ r.autoLead ≠ none) ∧
      s.rollGate p = true) ∧
    (s.wantsReturn p = true ↔ free ∧ r.phase = .armed ∧ reached ∧ s.rollGate p = false) ∧
    (s.mayRoll p = true ↔ free ∧ r.phase = .armed ∧ reached ∧ s.rollGate p = true) ∧
    (s.wantsRelease p = true ↔
      free ∧ r.phase = .rolled ∧ r.commit = true ∧ (r.releaseRequest = true ∨ r.autoLead ≠ none) ∧
      s.releaseGate p = true) ∧
    (s.rollCandidate = some p ↔
      (∀ sw ∈ s.sweepQueue, sw.1 ≠ .roll ∧ sw.1 ≠ .unroll) ∧
      ∃ earlier later, s.armedList = earlier ++ p :: later ∧ (∀ q ∈ earlier, s.mayRoll q = false) ∧
        s.mayRoll p = true) ∧
    (∀ l, r.rollRequest = some l → r.lead = l) ∧
    (∀ l, r.rollRequest = none → r.autoLead = some l → r.lead = l)

/-- The steps of the boundary evaluation, each in its turn (`s.nextStep`). SOAK_EXPIRY and RELEASE_AT_BOUNDARY (R134,
R135): the commit flag becomes yes, in hold too and whatever the lock; a committed ROLLED record enters RELEASING
without request and soak, its RELEASE sweep at the end of class B. ARMING and RETURN_TO_BRIDGED (R107, R115, R129,
R130): a BRIDGED record with no sweep enters ARMED with the epoch M + L and joins the tail of the armed list; an ARMED
record enters BRIDGED without its epoch and leaves the list, its request kept. What the evaluation decided is not tested
again, hold and lock and gates among it; a record that the unit in progress has taken out of the phase that the step
leaves stays as it is, and a row out of its turn does not occur: both are the model's choice (logs 2 and 10). -/
def Obligations.EvaluationStepsChangeThePhase : Prop :=
  (∀ (s : State) (p : Port),
     (s.nextStep = some (.soakExpiry p) → s.phase p = .rolled → ∃ t, exec (.soakExpiry p) s = .next t ∧
       let u := s.takeDue (.soakExpiry p)
       u.movedAlone t p { u.trunk p with commit := true } u.armedList u.sweepQueue) ∧
     (s.nextStep = some (.releaseAtBoundary p) → ∃ t, exec (.releaseAtBoundary p) s = .next t ∧
       let u := (s.takeDue (.releaseAtBoundary p)).atBoundary
       if u.phase p = .rolled ∧ (u.trunk p).commit = true then
         u.movedAlone t p { u.trunk p with phase := .releasing, releaseRequest := false, soak := none } u.armedList
           (joinQueue u.sweepQueue .release p)
       else u.resumed t)) ∧
  (∀ (s : State) (p : Port),
     (∀ lead, s.nextStep = some (.arming p lead) → ∃ t, exec (.arming p) s = .next t ∧
       let u := (s.takeDue (.arming p lead)).atBoundary
       if u.phase p = .bridged ∧ u.hasSweep p = false then
         u.movedAlone t p
           { u.trunk p with phase := .armed, epoch := some (u.timing.multiframe + BitVec.ofNat 16 lead) }
           (u.armedList ++ [p]) u.sweepQueue
       else u.resumed t) ∧
     (s.nextStep = some (.returnToBridged p) → ∃ t, exec (.returnToBridged p) s = .next t ∧
       let u := (s.takeDue (.returnToBridged p)).atBoundary
       if u.phase p = .armed then
         u.movedAlone t p { u.trunk p with phase := .bridged, epoch := none } (u.armedList.erase p) u.sweepQueue
       else u.resumed t)) ∧
  (∀ (s : State) (p : Port),
     (s.nextStep ≠ some (.soakExpiry p) → exec (.soakExpiry p) s = .next s) ∧
     (s.nextStep ≠ some (.returnToBridged p) → exec (.returnToBridged p) s = .next s) ∧
     (s.nextStep ≠ some (.autoStart p) → exec (.autoStart p) s = .next s) ∧
     (s.nextStep ≠ some (.autoBridge p) → exec (.autoBridge p) s = .next s) ∧
     ((∀ lead, s.nextStep ≠ some (.arming p lead)) → exec (.arming p) s = .next s) ∧
     (s.nextStep ≠ some (.releaseAtBoundary p) → exec (.releaseAtBoundary p) s = .next s) ∧
     ((∀ q, s.nextStep ≠ some (.rollStart q)) → exec .rollStart s = .next s) ∧
     (s.nextStep ≠ none → exec .gapExpiry s = .next s))

/-- AUTO_START and AUTO_BRIDGE, each in its turn of the boundary evaluation (R118, R119, R128): the effects of START on a
prepared BOUND record while fewer than 8 are announced, and those of BRIDGE on a TRACKED record with no sweep; no
response is made. What the evaluation decided, auto, hold and lock among it, is not tested again; where the record has
left that phase, or 8 are announced, it stays as it is (log 10). -/
def Obligations.AutomaticStepsActAsTheCommands : Prop :=
  ∀ (s : State) (p : Port),
    (s.nextStep = some (.autoStart p) → ∃ t, exec (.autoStart p) s = .next t ∧
      let u := (s.takeDue (.autoStart p)).atBoundary
      let starts : Prop := u.phase p = .bound ∧ (∃ b, (u.trunk p).binding = some b ∧ b.prepared = true) ∧
        u.announcedCount < 8
      (starts → u.started t p ∧ t.port = u.port ∧ t.channel = u.channel) ∧ (¬ starts → u.resumed t)) ∧
    (s.nextStep = some (.autoBridge p) → ∃ t, exec (.autoBridge p) s = .next t ∧
      let u := (s.takeDue (.autoBridge p)).atBoundary
      if u.phase p = .tracked ∧ u.hasSweep p = false then
        u.movedAlone t p { u.trunk p with phase := .bridging } u.armedList (joinQueue u.sweepQueue .bridge p)
      else u.resumed t)

/-- ROLL_START, in its turn of the boundary evaluation (R106, R131, R132): the record that the boundary chose, the first
of the armed list whose epoch was reached and whose gate was open, enters ROLLING with its roll-start multiframe, its
ROLL sweep in class A, and raises ROLL_LATE when M is past its epoch. The choice is not made again; a record that the
unit in progress has taken out of ARMED stays as it is (log 10). -/
def Obligations.RollStartTakesTheFirstReadyRecord : Prop :=
  ∀ (s : State) (p : Port), s.nextStep = some (.rollStart p) → ∃ t, exec .rollStart s = .next t ∧
    let u := (s.takeDue (.rollStart p)).atBoundary
    let rolls (v : State) : Prop :=
      u.movedAlone v p
        { u.trunk p with phase := .rolling, rollRequest := none, rollStart := some u.timing.multiframe,
                         epoch := none }
        (u.armedList.erase p) (joinQueue u.sweepQueue .roll p)
    (∀ e, u.phase p = .armed → (u.trunk p).epoch = some e →
      if u.timing.multiframe = e then rolls t else ∃ v, rolls v ∧ v.raised t [(.rollLate, some p)]) ∧
    (u.phase p ≠ .armed → u.resumed t)

/-! ## The peer link -/

/-- BEACON_COUNTDOWN_EXPIRY makes a beacon due; BEACON_TRANSMIT begins one when a beacon is due, the transmitter is
IDLE and the link enabled: its bytes are taken, with this unit's site, the learned peer site or 0, and one record
for each announced record in ascending port order, the countdown reloaded, change due cleared, and each lingering
MIGRATED record whose peer has been seen released stops lingering and loses its view (R110, R137, R173, R174);
otherwise it waits; TRANSMIT_COMPLETE leaves the transmitter IDLE (R174). -/
def Obligations.BeaconsBeginAtBoundaries : Prop :=
  ∀ s : State,
    (Due.beaconCountdownExpiry ∈ s.due → ∃ t, exec .beaconCountdownExpiry s = .next t ∧
      Due.beaconTransmit ∈ t.due ∧ s.resumed { t with due := s.due } ∧
      ∀ d, d ≠ .beaconTransmit → (d ∈ t.due ↔ d ∈ s.due.erase .beaconCountdownExpiry)) ∧
    (Due.beaconTransmit ∈ s.due → ∃ t, exec .beaconTransmit s = .next t ∧
      let u := s.takeDue .beaconTransmit
      let begins : Prop := (s.timing.beaconCountdown = 0 ∨ s.link.changeDue = true) ∧ s.link.transmitter = none ∧
        s.straps.site ≠ 0 ∧ s.straps.site ≠ 255
      let announced (p : Port) : Bool :=
        s.phase p ∈ [Phase.census, .tracked, .bridging, .bridged, .armed, .rolling, .rolled, .releasing, .unrolling,
          .unbridging] || (s.phase p = .migrated && (s.trunk p).lingering)
      let ends (p : Port) : Prop := s.phase p = .migrated ∧ (s.trunk p).lingering = true ∧
        ∃ v, s.view p = some v ∧ v.peerReleased = true
      (¬ begins → u.resumed t) ∧
      (begins →
        t.timing = { s.timing with beaconCountdown := s.timing.beaconPeriod } ∧
        t.link = { s.link with transmitter := some s.beaconBytes, changeDue := false, views := t.link.views } ∧
        s.beaconBytes =
          frameBytes 0x21 (beaconPayload s.straps.site
            (match s.link.learnedPeer with
              | some site => site
              | none => 0)
            ((allPorts.filter announced).filterMap (fun p => (s.trunk p).binding.map (fun b =>
              { circuit := b.circuit, phase := (s.trunk p).phase, commit := (s.trunk p).commit,
                alarm := b.fibreAlarm, digest := BitVec.ofNat 16 b.digest })))) ∧
        (∀ p, (ends p → t.trunk p = { s.trunk p with lingering := false } ∧ t.view p = none) ∧
          (¬ ends p → t.trunk p = s.trunk p ∧ t.view p = s.view p)) ∧
        t = { u with timing := t.timing, trunks := t.trunks, link := t.link, sweeps := t.sweeps,
                     arbiter := t.arbiter } ∧
        t.sweepQueue = s.sweepQueue)) ∧
    (s.quiet → ∃ t, exec .transmitComplete s = .next t ∧
      ({ s with link := { s.link with transmitter := none } } : State).resumed t)

/-- A frame and its content read back (R161, R162, R167, R174, R176, section 11.8.7): the frame of a kind and a
payload of at most 60 bytes, taken byte by byte from HUNT, leaves HUNT and makes due the dispatch of exactly that
kind and payload; the payload of a beacon of at most 8 records reads back as its sites and records; an ALARM payload
reads back as its set. -/
def Obligations.FramesReadBackAsTheyWereMade : Prop :=
  (∀ (l : PeerLink) (disabled : Bool) (kind : Byte) (payload : List Byte), l.receiver = .hunt →
    payload.length ≤ 60 →
    ∃ front last, frameBytes kind payload = front ++ [last] ∧
      let before := front.foldl (fun m b => (m.takeByte disabled b).1) l
      (∀ n, n < front.length →
        ((front.take n).foldl (fun m b => (m.takeByte disabled b).1) l).takeByte disabled (front.getD n 0) =
          (((front.take (n + 1)).foldl (fun m b => (m.takeByte disabled b).1) l), none)) ∧
      before.takeByte disabled last =
        ({ l with held := [], gap := 0 }, some (frameEvent disabled kind payload))) ∧
  (∀ (fromSite toSite : Byte) (records : List BeaconRecord), records.length ≤ 8 →
    (∀ r ∈ records, r.phase ≠ .free ∧ r.phase ≠ .bound) →
    parseBeacon (beaconPayload fromSite toSite records) = some (fromSite, toSite, records.map some)) ∧
  (∀ (bytes : List Byte) (i : Nat) (b : Nat), bytes.length = 8 → i < 8 → b < 8 →
    ∃ set, parseAlarm bytes = some set ∧ set.getLsbD (8 * i + b) = (bytes.getD i 0).getLsbD b)

/-- BYTE_TAKEN with nothing due (R159, R162, R163): what each receiver state does with a byte; a bad length, a bad
check byte and a character in error outside HUNT make the discard of the frame due, and a good check byte the
dispatch of the frame by its kind; in HUNT any byte but D3h and any character in error are ignored. That the bad length
byte and the bad check byte join the held bytes, to be re-taken, is the model's deduction (log 11). -/
def Obligations.ReceiverTakesEachByte : Prop :=
  ∀ (s : State) (b : Byte), s.quiet →
    let l := s.link
    let held := l.held ++ [b]
    let outcome (t : State) (link : PeerLink) (due : List Due) : Prop :=
      ({ s with link := link, due := due } : State).resumed t
    (∃ t, exec (.byteTaken .inError) s = .next t ∧
      outcome t l (if l.receiver = .hunt then [] else [.frameDiscard])) ∧
    ∃ t, exec (.byteTaken (.byte b)) s = .next t ∧
      match l.receiver with
      | .hunt =>
        if b = 0xD3 then outcome t { l with held := [b], gap := 0, receiver := .kind } [] else outcome t l []
      | .kind => outcome t { l with held := held, gap := 0, receiver := .length } []
      | .length =>
        if b = 0 then outcome t { l with held := held, gap := 0, receiver := .check } []
        else if b.toNat ≤ 60 then outcome t { l with held := held, gap := 0, receiver := .payload } []
        else outcome t { l with held := held, gap := 0 } [.frameDiscard]
      | .payload =>
        outcome t
          { l with held := held, gap := 0,
                   receiver := if held.length = 3 + (held.getD 2 0).toNat then .check else .payload } []
      | .check =>
        if byteSum (held.drop 1) = 0 then
          outcome t { l with held := [], gap := 0, receiver := .hunt }
            [frameEvent s.linkDisabled (held.getD 1 0) ((held.drop 3).dropLast)]
        else outcome t { l with held := held, gap := 0 } [.frameDiscard]

/-- FRAME_IGNORED, FRAME_DISCARD and GAP_EXPIRY (R163, R164, R165): a whole frame that is ignored changes nothing, and
the re-taking of an earlier discard goes on; a discard raises LINK_FRAME once, unless the link is disabled, returns the
receiver to HUNT, and re-takes the held bytes after the opening one, before those that an earlier discard has left.
Re-taking takes each byte in turn, up to the first that makes an event due, and keeps the rest; with no opening byte
among them all are ignored. A gap expiry follows the transition of its boundary to silence (R111, R172) and the steps
of its evaluation (log 10). -/
def Obligations.DiscardedFramesAreRetaken : Prop :=
  ∀ s : State,
    (Due.frameIgnored ∈ s.due → ∃ t, exec .frameIgnored s = .next t ∧ (s.takeDue .frameIgnored).goesOn t) ∧
    (∀ d, (d = .frameDiscard ∨ d = .gapExpiry) → d ∈ s.due →
      (d = .gapExpiry → s.nextStep = none ∧ Due.peerSilent ∉ s.due) →
      ∃ v t, (if d = .gapExpiry then exec .gapExpiry s else exec .frameDiscard s) = .next t ∧ v.goesOn t ∧
        let bytes := s.link.held.drop 1 ++ s.link.retaking
        let u : State := { s.takeDue d with
          link := { s.link with receiver := .hunt, held := [], gap := 0, retaking := bytes } }
        (if s.linkDisabled = true then v = u else u.raisesAt v .linkFrame none) ∧
        ((0xD3 : Byte) ∉ bytes → ({ v with link := { v.link with retaking := [] } } : State).resumed t)) ∧
    (s.nextStep ≠ none ∨ Due.peerSilent ∈ s.due → exec .gapExpiry s = .next s)

/-- PEER_SILENT (R111, R172): the learned peer site becomes none and PEER_SILENT is raised; the views keep their values.
BEACON_FRAME (R165, R167, R168, R170, R171): a bad form raises LINK_FRAME; a foreign identity raises PEER_IDENTITY; an
accepted beacon teaches the peer, reloads the silence countdown, raises LINK_FRAME for each unusable record, and updates
every view entry with the usable record of its circuit, or ABSENT; in ascending order of the records a new digest
difference raises PEER_MISMATCH, and a withdrawal from the transmit set PEER_WITHDRAW for a record in ARMED, ROLLING or
ROLLED. Each occurrence is counted, and dispatches fallback when its class is FALLBACK, as PEER_WITHDRAW's is by
default (R185). -/
def Obligations.BeaconsAndSilenceChangeThePeerViews : Prop :=
  (∀ s : State, Due.peerSilent ∈ s.due → ∃ t, exec .peerSilent s = .next t ∧
     ({ s with due := s.due.erase .peerSilent, link := { s.link with learnedPeer := none } } :
       State).raisesAt t .peerSilent none) ∧
  (∀ (s : State) (payload : List Byte) (rest : List Due), s.due = .beaconFrame payload :: rest →
     let u := (s.takeDue (.beaconFrame payload)).atBoundary
     ∃ v t, exec .beaconFrame s = .next t ∧ v.goesOn t ∧
       match parseBeacon payload with
       | none => u.raised v [(.linkFrame, none)]
       | some (fromSite, toSite, records) =>
         if 1 ≤ fromSite.toNat ∧ fromSite.toNat ≤ 254 ∧ fromSite ≠ u.straps.site ∧
             (toSite = u.straps.site ∨ toSite = 0) ∧
             (u.link.learnedPeer = none ∨ u.link.learnedPeer = some fromSite) then
           let updated (v : PeerView) : PeerView :=
             match (records.filterMap id).find? (fun r => r.circuit = v.circuit) with
             | some r =>
               { v with
                 phase := .listed r.phase, commit := r.commit, alarm := r.alarm, digest := some r.digest,
                 heardAt := some u.timing.multiframe,
                 peerReleased := v.peerReleased || r.phase = .releasing || r.phase = .migrated }
             | none => { v with phase := .absent, heardAt := some u.timing.multiframe }
           let withdraws (p : Port) (v : PeerView) : Bool :=
             v.phase.inTransmitSet && !(updated v).phase.inTransmitSet &&
               (u.phase p = .armed || u.phase p = .rolling || u.phase p = .rolled)
           let unequal (v : PeerView) (b : Binding) : Bool :=
             (match v.phase with
             | .listed _ => true
             | _ => false) && v.digest.map BitVec.toNat != some b.digest
           let differs (p : Port) (v : PeerView) : Bool :=
             match (u.trunk p).binding with
             | some b => unequal (updated v) b && !unequal v b
             | none => false
           let edges (p : Port) : List Occurrence :=
             match u.view p with
             | some v =>
               (if differs p v then [(.peerMismatch, some p)] else []) ++
                 (if withdraws p v then [(.peerWithdraw, some p)] else [])
             | none => []
           (∀ p, v.view p = (u.view p).map updated) ∧
           ({ u with
              timing := { u.timing with silenceCountdown := u.timing.silenceLimit * u.timing.beaconPeriod },
              link := { u.link with learnedPeer := some fromSite, views := v.link.views } } : State).raised v
             ((records.filter Option.isNone).map (fun _ => (.linkFrame, none)) ++ allPorts.flatMap edges)
         else u.raised v [(.peerIdentity, none)])

/-- ALARM_FRAME (R155, R165, R173, R176): a payload that is not 8 bytes raises LINK_FRAME; otherwise the set is replaced
whole, the fibre-alarm flag of each bound record follows its fibre port, a flag that changes in an announced record
makes a beacon due, and in ascending order of the records an alarm that enters the set raises FIBRE_ALARM for an
uncommitted record in ARMED, ROLLING or ROLLED, FIBRE_DARK for a committed one, each with its trunk. Each occurrence is
counted, and dispatches fallback when its class is FALLBACK, as FIBRE_ALARM's is by default (R185). -/
def Obligations.AlarmFramesReplaceTheSet : Prop :=
  ∀ (s : State) (payload : List Byte) (rest : List Due), s.due = .alarmFrame payload :: rest →
    let u := (s.takeDue (.alarmFrame payload)).atBoundary
    ∃ v t, exec .alarmFrame s = .next t ∧ v.goesOn t ∧
      match parseAlarm payload with
      | none => u.raised v [(.linkFrame, none)]
      | some set =>
        let changes (p : Port) : Bool := match (u.trunk p).binding with
          | some b => set.getLsbD b.fibre.val != u.link.alarmSet.getLsbD b.fibre.val
          | none => false
        let enters (p : Port) : Bool := match (u.trunk p).binding with
          | some b => !u.link.alarmSet.getLsbD b.fibre.val && set.getLsbD b.fibre.val
          | none => false
        let flagged (p : Port) : TrunkRecord :=
          if changes p then
            { u.trunk p with binding := (u.trunk p).binding.map (fun b =>
                { b with fibreAlarm := set.getLsbD b.fibre.val }) }
          else u.trunk p
        let uncommitted (p : Port) : Bool :=
          u.phase p = .armed || u.phase p = .rolling || (u.phase p = .rolled && !(u.trunk p).commit)
        let committed (p : Port) : Bool :=
          u.phase p = .releasing || u.phase p = .migrated || (u.phase p = .rolled && (u.trunk p).commit)
        let alarms (p : Port) : List Occurrence :=
          if enters p && uncommitted p then [(.fibreAlarm, some p)]
          else if enters p && committed p then [(.fibreDark, some p)] else []
        ({ u with
           trunks := Vector.ofFn (fun p => flagged p),
           link := { u.link with
             alarmSet := set,
             changePending := u.link.changePending || allPorts.any (fun p => changes p && u.announced p) } } :
          State).raised v (allPorts.flatMap alarms)

/-! ## Invariants that every step keeps -/

/-- The store keeps its canonical form; every fault count stays within 0–255 (R180) and FALLBACK_BLOCKED never has
class FALLBACK (R185, R189); the allowance count stays within 0–8 (R44, R46). -/
def Obligations.StoreAndCountsStaySound : Prop :=
  ∀ s t : State, s.storeSound → s.collectorSound → s.allowanceSound → step s = .next t →
    t.storeSound ∧ t.collectorSound ∧ t.allowanceSound

/-- Once a record's commit flag is set it is in ROLLED, RELEASING or MIGRATED (R134), and a PINNED record is in
MIGRATED (R27), after every step. -/
def Obligations.CommittedAndPinnedRecordsStayForward : Prop :=
  ∀ s t : State, s.commitSound → step s = .next t → t.commitSound

/-- The trunk table and the fibre binding table agree after every step: a record is bound to a fibre port exactly
when the port's entry names it, no circuit is held twice, every map is valid and every digest that of its map (R8,
R10, R18, R19). While the image is LOADING the table is FREE, no sweep and no unit exists, and the cycle that the
port keeps has no class (R34, R36, R55). -/
def Obligations.BindingTablesStayInAgreement : Prop :=
  ∀ s t : State, s.bindingSound → s.loadSound → step s = .next t → t.bindingSound ∧ t.loadSound

/-- After every step no trunk has two sweeps, each sweep fits its record's phase, class A stands before class B (R79),
and the armed list holds exactly the ARMED records, each once (R115). -/
def Obligations.QueueAndArmedListStaySound : Prop :=
  ∀ s t : State, s.sweepsSound → s.armedSound → s.loadSound → step s = .next t → t.sweepsSound ∧ t.armedSound

/-- After every step at most 8 records are announced, and exactly the announced records have a peer view entry, each
of its record's circuit (R116, R169). -/
def Obligations.AnnouncedSetStaysWithinEight : Prop :=
  ∀ s t : State, s.announcedSound → s.loadSound → step s = .next t → t.announcedSound

/-- The machine right after power-on reset has every one of these invariants (R36, R44, R115, R179). -/
def Obligations.ResetIsSound : Prop :=
  State.reset.storeSound ∧ State.reset.collectorSound ∧ State.reset.allowanceSound ∧ State.reset.commitSound ∧
    State.reset.bindingSound ∧ State.reset.loadSound ∧ State.reset.sweepsSound ∧ State.reset.armedSound ∧
    State.reset.announcedSound ∧ State.reset.indexSound

/-- After every step at most 1024 links are in use, at most one for each address, and every talker that has one is on an
index-active record that is not index-lost (R57, R58, R61, R72). -/
def Obligations.ListenerIndexStaysSound : Prop :=
  ∀ s t : State, s.indexSound → s.loadSound → step s = .next t → t.indexSound
end

