-- ==== Sys2Proof/Laws/State.lean ====
section
/-! SUPPORT. One lemma per field for each update of the state, true by `rfl`: no later proof unfolds a record
update. -/

namespace Sys2Proof.Machine

variable (s : State)

/-! `State.writeWord` -/

@[simp] theorem State.writeWord_straps (x : Physical) (w : Word) : (s.writeWord x w).straps = s.straps := rfl
@[simp] theorem State.writeWord_port (x : Physical) (w : Word) : (s.writeWord x w).port = s.port := rfl
@[simp] theorem State.writeWord_arbiter (x : Physical) (w : Word) : (s.writeWord x w).arbiter = s.arbiter := rfl
@[simp] theorem State.writeWord_store (x : Physical) (w : Word) : (s.writeWord x w).store = insertWord s.store x.toNat w := rfl
@[simp] theorem State.writeWord_trunks (x : Physical) (w : Word) : (s.writeWord x w).trunks = s.trunks := rfl
@[simp] theorem State.writeWord_fibreTable (x : Physical) (w : Word) : (s.writeWord x w).fibreTable = s.fibreTable := rfl
@[simp] theorem State.writeWord_armedList (x : Physical) (w : Word) : (s.writeWord x w).armedList = s.armedList := rfl
@[simp] theorem State.writeWord_image (x : Physical) (w : Word) : (s.writeWord x w).image = s.image := rfl
@[simp] theorem State.writeWord_links (x : Physical) (w : Word) : (s.writeWord x w).links = s.links := rfl
@[simp] theorem State.writeWord_sweeps (x : Physical) (w : Word) : (s.writeWord x w).sweeps = s.sweeps := rfl
@[simp] theorem State.writeWord_timing (x : Physical) (w : Word) : (s.writeWord x w).timing = s.timing := rfl
@[simp] theorem State.writeWord_link (x : Physical) (w : Word) : (s.writeWord x w).link = s.link := rfl
@[simp] theorem State.writeWord_faults (x : Physical) (w : Word) : (s.writeWord x w).faults = s.faults := rfl
@[simp] theorem State.writeWord_channel (x : Physical) (w : Word) : (s.writeWord x w).channel = s.channel := rfl
@[simp] theorem State.writeWord_due (x : Physical) (w : Word) : (s.writeWord x w).due = s.due := rfl
@[simp] theorem State.writeWord_draws (x : Physical) (w : Word) : (s.writeWord x w).draws = s.draws := rfl
@[simp] theorem State.writeWord_pending (x : Physical) (w : Word) : (s.writeWord x w).pending = s.pending := rfl

/-! `State.setTrunk` -/

@[simp] theorem State.setTrunk_straps (p : Port) (r : TrunkRecord) : (s.setTrunk p r).straps = s.straps := rfl
@[simp] theorem State.setTrunk_port (p : Port) (r : TrunkRecord) : (s.setTrunk p r).port = s.port := rfl
@[simp] theorem State.setTrunk_arbiter (p : Port) (r : TrunkRecord) : (s.setTrunk p r).arbiter = s.arbiter := rfl
@[simp] theorem State.setTrunk_store (p : Port) (r : TrunkRecord) : (s.setTrunk p r).store = s.store := rfl
@[simp] theorem State.setTrunk_trunks (p : Port) (r : TrunkRecord) : (s.setTrunk p r).trunks = s.trunks.set p.val r p.isLt := rfl
@[simp] theorem State.setTrunk_fibreTable (p : Port) (r : TrunkRecord) : (s.setTrunk p r).fibreTable = s.fibreTable := rfl
@[simp] theorem State.setTrunk_armedList (p : Port) (r : TrunkRecord) : (s.setTrunk p r).armedList = s.armedList := rfl
@[simp] theorem State.setTrunk_image (p : Port) (r : TrunkRecord) : (s.setTrunk p r).image = s.image := rfl
@[simp] theorem State.setTrunk_links (p : Port) (r : TrunkRecord) : (s.setTrunk p r).links = s.links := rfl
@[simp] theorem State.setTrunk_sweeps (p : Port) (r : TrunkRecord) : (s.setTrunk p r).sweeps = s.sweeps := rfl
@[simp] theorem State.setTrunk_timing (p : Port) (r : TrunkRecord) : (s.setTrunk p r).timing = s.timing := rfl
@[simp] theorem State.setTrunk_link (p : Port) (r : TrunkRecord) : (s.setTrunk p r).link = s.link := rfl
@[simp] theorem State.setTrunk_faults (p : Port) (r : TrunkRecord) : (s.setTrunk p r).faults = s.faults := rfl
@[simp] theorem State.setTrunk_channel (p : Port) (r : TrunkRecord) : (s.setTrunk p r).channel = s.channel := rfl
@[simp] theorem State.setTrunk_due (p : Port) (r : TrunkRecord) : (s.setTrunk p r).due = s.due := rfl
@[simp] theorem State.setTrunk_draws (p : Port) (r : TrunkRecord) : (s.setTrunk p r).draws = s.draws := rfl
@[simp] theorem State.setTrunk_pending (p : Port) (r : TrunkRecord) : (s.setTrunk p r).pending = s.pending := rfl

/-! `State.setBoundTo` -/

@[simp] theorem State.setBoundTo_straps (F : FibrePort) (p : Option Port) : (s.setBoundTo F p).straps = s.straps := rfl
@[simp] theorem State.setBoundTo_port (F : FibrePort) (p : Option Port) : (s.setBoundTo F p).port = s.port := rfl
@[simp] theorem State.setBoundTo_arbiter (F : FibrePort) (p : Option Port) : (s.setBoundTo F p).arbiter = s.arbiter := rfl
@[simp] theorem State.setBoundTo_store (F : FibrePort) (p : Option Port) : (s.setBoundTo F p).store = s.store := rfl
@[simp] theorem State.setBoundTo_trunks (F : FibrePort) (p : Option Port) : (s.setBoundTo F p).trunks = s.trunks := rfl
@[simp] theorem State.setBoundTo_fibreTable (F : FibrePort) (p : Option Port) : (s.setBoundTo F p).fibreTable = s.fibreTable.set F.val p F.isLt := rfl
@[simp] theorem State.setBoundTo_armedList (F : FibrePort) (p : Option Port) : (s.setBoundTo F p).armedList = s.armedList := rfl
@[simp] theorem State.setBoundTo_image (F : FibrePort) (p : Option Port) : (s.setBoundTo F p).image = s.image := rfl
@[simp] theorem State.setBoundTo_links (F : FibrePort) (p : Option Port) : (s.setBoundTo F p).links = s.links := rfl
@[simp] theorem State.setBoundTo_sweeps (F : FibrePort) (p : Option Port) : (s.setBoundTo F p).sweeps = s.sweeps := rfl
@[simp] theorem State.setBoundTo_timing (F : FibrePort) (p : Option Port) : (s.setBoundTo F p).timing = s.timing := rfl
@[simp] theorem State.setBoundTo_link (F : FibrePort) (p : Option Port) : (s.setBoundTo F p).link = s.link := rfl
@[simp] theorem State.setBoundTo_faults (F : FibrePort) (p : Option Port) : (s.setBoundTo F p).faults = s.faults := rfl
@[simp] theorem State.setBoundTo_channel (F : FibrePort) (p : Option Port) : (s.setBoundTo F p).channel = s.channel := rfl
@[simp] theorem State.setBoundTo_due (F : FibrePort) (p : Option Port) : (s.setBoundTo F p).due = s.due := rfl
@[simp] theorem State.setBoundTo_draws (F : FibrePort) (p : Option Port) : (s.setBoundTo F p).draws = s.draws := rfl
@[simp] theorem State.setBoundTo_pending (F : FibrePort) (p : Option Port) : (s.setBoundTo F p).pending = s.pending := rfl

/-! `State.setView` -/

@[simp] theorem State.setView_straps (p : Port) (v : Option PeerView) : (s.setView p v).straps = s.straps := rfl
@[simp] theorem State.setView_port (p : Port) (v : Option PeerView) : (s.setView p v).port = s.port := rfl
@[simp] theorem State.setView_arbiter (p : Port) (v : Option PeerView) : (s.setView p v).arbiter = s.arbiter := rfl
@[simp] theorem State.setView_store (p : Port) (v : Option PeerView) : (s.setView p v).store = s.store := rfl
@[simp] theorem State.setView_trunks (p : Port) (v : Option PeerView) : (s.setView p v).trunks = s.trunks := rfl
@[simp] theorem State.setView_fibreTable (p : Port) (v : Option PeerView) : (s.setView p v).fibreTable = s.fibreTable := rfl
@[simp] theorem State.setView_armedList (p : Port) (v : Option PeerView) : (s.setView p v).armedList = s.armedList := rfl
@[simp] theorem State.setView_image (p : Port) (v : Option PeerView) : (s.setView p v).image = s.image := rfl
@[simp] theorem State.setView_links (p : Port) (v : Option PeerView) : (s.setView p v).links = s.links := rfl
@[simp] theorem State.setView_sweeps (p : Port) (v : Option PeerView) : (s.setView p v).sweeps = s.sweeps := rfl
@[simp] theorem State.setView_timing (p : Port) (v : Option PeerView) : (s.setView p v).timing = s.timing := rfl
@[simp] theorem State.setView_link (p : Port) (v : Option PeerView) : (s.setView p v).link = { s.link with views := s.link.views.set p.val v p.isLt } := rfl
@[simp] theorem State.setView_faults (p : Port) (v : Option PeerView) : (s.setView p v).faults = s.faults := rfl
@[simp] theorem State.setView_channel (p : Port) (v : Option PeerView) : (s.setView p v).channel = s.channel := rfl
@[simp] theorem State.setView_due (p : Port) (v : Option PeerView) : (s.setView p v).due = s.due := rfl
@[simp] theorem State.setView_draws (p : Port) (v : Option PeerView) : (s.setView p v).draws = s.draws := rfl
@[simp] theorem State.setView_pending (p : Port) (v : Option PeerView) : (s.setView p v).pending = s.pending := rfl

/-! `State.reportChange` -/

@[simp] theorem State.reportChange_straps : (s.reportChange).straps = s.straps := rfl
@[simp] theorem State.reportChange_port : (s.reportChange).port = s.port := rfl
@[simp] theorem State.reportChange_arbiter : (s.reportChange).arbiter = s.arbiter := rfl
@[simp] theorem State.reportChange_store : (s.reportChange).store = s.store := rfl
@[simp] theorem State.reportChange_trunks : (s.reportChange).trunks = s.trunks := rfl
@[simp] theorem State.reportChange_fibreTable : (s.reportChange).fibreTable = s.fibreTable := rfl
@[simp] theorem State.reportChange_armedList : (s.reportChange).armedList = s.armedList := rfl
@[simp] theorem State.reportChange_image : (s.reportChange).image = s.image := rfl
@[simp] theorem State.reportChange_links : (s.reportChange).links = s.links := rfl
@[simp] theorem State.reportChange_sweeps : (s.reportChange).sweeps = s.sweeps := rfl
@[simp] theorem State.reportChange_timing : (s.reportChange).timing = s.timing := rfl
@[simp] theorem State.reportChange_link : (s.reportChange).link = { s.link with changePending := true } := rfl
@[simp] theorem State.reportChange_faults : (s.reportChange).faults = s.faults := rfl
@[simp] theorem State.reportChange_channel : (s.reportChange).channel = s.channel := rfl
@[simp] theorem State.reportChange_due : (s.reportChange).due = s.due := rfl
@[simp] theorem State.reportChange_draws : (s.reportChange).draws = s.draws := rfl
@[simp] theorem State.reportChange_pending : (s.reportChange).pending = s.pending := rfl

/-! `State.leaveAnnounced` -/

@[simp] theorem State.leaveAnnounced_straps (p : Port) : (s.leaveAnnounced p).straps = s.straps := rfl
@[simp] theorem State.leaveAnnounced_port (p : Port) : (s.leaveAnnounced p).port = s.port := rfl
@[simp] theorem State.leaveAnnounced_arbiter (p : Port) : (s.leaveAnnounced p).arbiter = s.arbiter := rfl
@[simp] theorem State.leaveAnnounced_store (p : Port) : (s.leaveAnnounced p).store = s.store := rfl
@[simp] theorem State.leaveAnnounced_trunks (p : Port) : (s.leaveAnnounced p).trunks = s.trunks := rfl
@[simp] theorem State.leaveAnnounced_fibreTable (p : Port) : (s.leaveAnnounced p).fibreTable = s.fibreTable := rfl
@[simp] theorem State.leaveAnnounced_armedList (p : Port) : (s.leaveAnnounced p).armedList = s.armedList := rfl
@[simp] theorem State.leaveAnnounced_image (p : Port) : (s.leaveAnnounced p).image = s.image := rfl
@[simp] theorem State.leaveAnnounced_links (p : Port) : (s.leaveAnnounced p).links = s.links := rfl
@[simp] theorem State.leaveAnnounced_sweeps (p : Port) : (s.leaveAnnounced p).sweeps = s.sweeps := rfl
@[simp] theorem State.leaveAnnounced_timing (p : Port) : (s.leaveAnnounced p).timing = s.timing := rfl
@[simp] theorem State.leaveAnnounced_link (p : Port) : (s.leaveAnnounced p).link = { s.link with views := s.link.views.set p.val none p.isLt, changePending := true } := rfl
@[simp] theorem State.leaveAnnounced_faults (p : Port) : (s.leaveAnnounced p).faults = s.faults := rfl
@[simp] theorem State.leaveAnnounced_channel (p : Port) : (s.leaveAnnounced p).channel = s.channel := rfl
@[simp] theorem State.leaveAnnounced_due (p : Port) : (s.leaveAnnounced p).due = s.due := rfl
@[simp] theorem State.leaveAnnounced_draws (p : Port) : (s.leaveAnnounced p).draws = s.draws := rfl
@[simp] theorem State.leaveAnnounced_pending (p : Port) : (s.leaveAnnounced p).pending = s.pending := rfl

/-! `State.setSource` -/

@[simp] theorem State.setSource_straps (src : FaultSource) (f : SourceState) : (s.setSource src f).straps = s.straps := rfl
@[simp] theorem State.setSource_port (src : FaultSource) (f : SourceState) : (s.setSource src f).port = s.port := rfl
@[simp] theorem State.setSource_arbiter (src : FaultSource) (f : SourceState) : (s.setSource src f).arbiter = s.arbiter := rfl
@[simp] theorem State.setSource_store (src : FaultSource) (f : SourceState) : (s.setSource src f).store = s.store := rfl
@[simp] theorem State.setSource_trunks (src : FaultSource) (f : SourceState) : (s.setSource src f).trunks = s.trunks := rfl
@[simp] theorem State.setSource_fibreTable (src : FaultSource) (f : SourceState) : (s.setSource src f).fibreTable = s.fibreTable := rfl
@[simp] theorem State.setSource_armedList (src : FaultSource) (f : SourceState) : (s.setSource src f).armedList = s.armedList := rfl
@[simp] theorem State.setSource_image (src : FaultSource) (f : SourceState) : (s.setSource src f).image = s.image := rfl
@[simp] theorem State.setSource_links (src : FaultSource) (f : SourceState) : (s.setSource src f).links = s.links := rfl
@[simp] theorem State.setSource_sweeps (src : FaultSource) (f : SourceState) : (s.setSource src f).sweeps = s.sweeps := rfl
@[simp] theorem State.setSource_timing (src : FaultSource) (f : SourceState) : (s.setSource src f).timing = s.timing := rfl
@[simp] theorem State.setSource_link (src : FaultSource) (f : SourceState) : (s.setSource src f).link = s.link := rfl
@[simp] theorem State.setSource_faults (src : FaultSource) (f : SourceState) : (s.setSource src f).faults = { s.faults with sources := s.faults.sources.set src.index.val f src.index.isLt } := rfl
@[simp] theorem State.setSource_channel (src : FaultSource) (f : SourceState) : (s.setSource src f).channel = s.channel := rfl
@[simp] theorem State.setSource_due (src : FaultSource) (f : SourceState) : (s.setSource src f).due = s.due := rfl
@[simp] theorem State.setSource_draws (src : FaultSource) (f : SourceState) : (s.setSource src f).draws = s.draws := rfl
@[simp] theorem State.setSource_pending (src : FaultSource) (f : SourceState) : (s.setSource src f).pending = s.pending := rfl

/-! `State.setHold` -/

@[simp] theorem State.setHold_straps (h : Bool) : (s.setHold h).straps = s.straps := rfl
@[simp] theorem State.setHold_port (h : Bool) : (s.setHold h).port = s.port := rfl
@[simp] theorem State.setHold_arbiter (h : Bool) : (s.setHold h).arbiter = s.arbiter := rfl
@[simp] theorem State.setHold_store (h : Bool) : (s.setHold h).store = s.store := rfl
@[simp] theorem State.setHold_trunks (h : Bool) : (s.setHold h).trunks = s.trunks := rfl
@[simp] theorem State.setHold_fibreTable (h : Bool) : (s.setHold h).fibreTable = s.fibreTable := rfl
@[simp] theorem State.setHold_armedList (h : Bool) : (s.setHold h).armedList = s.armedList := rfl
@[simp] theorem State.setHold_image (h : Bool) : (s.setHold h).image = s.image := rfl
@[simp] theorem State.setHold_links (h : Bool) : (s.setHold h).links = s.links := rfl
@[simp] theorem State.setHold_sweeps (h : Bool) : (s.setHold h).sweeps = s.sweeps := rfl
@[simp] theorem State.setHold_timing (h : Bool) : (s.setHold h).timing = s.timing := rfl
@[simp] theorem State.setHold_link (h : Bool) : (s.setHold h).link = s.link := rfl
@[simp] theorem State.setHold_faults (h : Bool) : (s.setHold h).faults = { s.faults with hold := h } := rfl
@[simp] theorem State.setHold_channel (h : Bool) : (s.setHold h).channel = s.channel := rfl
@[simp] theorem State.setHold_due (h : Bool) : (s.setHold h).due = s.due := rfl
@[simp] theorem State.setHold_draws (h : Bool) : (s.setHold h).draws = s.draws := rfl
@[simp] theorem State.setHold_pending (h : Bool) : (s.setHold h).pending = s.pending := rfl

/-! `State.addDue` -/

@[simp] theorem State.addDue_straps (d : Due) : (s.addDue d).straps = s.straps := rfl
@[simp] theorem State.addDue_port (d : Due) : (s.addDue d).port = s.port := rfl
@[simp] theorem State.addDue_arbiter (d : Due) : (s.addDue d).arbiter = s.arbiter := rfl
@[simp] theorem State.addDue_store (d : Due) : (s.addDue d).store = s.store := rfl
@[simp] theorem State.addDue_trunks (d : Due) : (s.addDue d).trunks = s.trunks := rfl
@[simp] theorem State.addDue_fibreTable (d : Due) : (s.addDue d).fibreTable = s.fibreTable := rfl
@[simp] theorem State.addDue_armedList (d : Due) : (s.addDue d).armedList = s.armedList := rfl
@[simp] theorem State.addDue_image (d : Due) : (s.addDue d).image = s.image := rfl
@[simp] theorem State.addDue_links (d : Due) : (s.addDue d).links = s.links := rfl
@[simp] theorem State.addDue_sweeps (d : Due) : (s.addDue d).sweeps = s.sweeps := rfl
@[simp] theorem State.addDue_timing (d : Due) : (s.addDue d).timing = s.timing := rfl
@[simp] theorem State.addDue_link (d : Due) : (s.addDue d).link = s.link := rfl
@[simp] theorem State.addDue_faults (d : Due) : (s.addDue d).faults = s.faults := rfl
@[simp] theorem State.addDue_channel (d : Due) : (s.addDue d).channel = s.channel := rfl
@[simp] theorem State.addDue_due (d : Due) : (s.addDue d).due = s.due ++ [d] := rfl
@[simp] theorem State.addDue_draws (d : Due) : (s.addDue d).draws = s.draws := rfl
@[simp] theorem State.addDue_pending (d : Due) : (s.addDue d).pending = s.pending := rfl

/-! `State.takeDue` -/

@[simp] theorem State.takeDue_straps (d : Due) : (s.takeDue d).straps = s.straps := rfl
@[simp] theorem State.takeDue_port (d : Due) : (s.takeDue d).port = s.port := rfl
@[simp] theorem State.takeDue_arbiter (d : Due) : (s.takeDue d).arbiter = s.arbiter := rfl
@[simp] theorem State.takeDue_store (d : Due) : (s.takeDue d).store = s.store := rfl
@[simp] theorem State.takeDue_trunks (d : Due) : (s.takeDue d).trunks = s.trunks := rfl
@[simp] theorem State.takeDue_fibreTable (d : Due) : (s.takeDue d).fibreTable = s.fibreTable := rfl
@[simp] theorem State.takeDue_armedList (d : Due) : (s.takeDue d).armedList = s.armedList := rfl
@[simp] theorem State.takeDue_image (d : Due) : (s.takeDue d).image = s.image := rfl
@[simp] theorem State.takeDue_links (d : Due) : (s.takeDue d).links = s.links := rfl
@[simp] theorem State.takeDue_sweeps (d : Due) : (s.takeDue d).sweeps = s.sweeps := rfl
@[simp] theorem State.takeDue_timing (d : Due) : (s.takeDue d).timing = s.timing := rfl
@[simp] theorem State.takeDue_link (d : Due) : (s.takeDue d).link = s.link := rfl
@[simp] theorem State.takeDue_faults (d : Due) : (s.takeDue d).faults = s.faults := rfl
@[simp] theorem State.takeDue_channel (d : Due) : (s.takeDue d).channel = s.channel := rfl
@[simp] theorem State.takeDue_due (d : Due) : (s.takeDue d).due = s.due.erase d := rfl
@[simp] theorem State.takeDue_draws (d : Due) : (s.takeDue d).draws = s.draws := rfl
@[simp] theorem State.takeDue_pending (d : Due) : (s.takeDue d).pending = s.pending := rfl

/-! `State.drawn` -/

@[simp] theorem State.drawn_straps : (s.drawn).straps = s.straps := rfl
@[simp] theorem State.drawn_port : (s.drawn).port = s.port := rfl
@[simp] theorem State.drawn_arbiter : (s.drawn).arbiter = s.arbiter := rfl
@[simp] theorem State.drawn_store : (s.drawn).store = s.store := rfl
@[simp] theorem State.drawn_trunks : (s.drawn).trunks = s.trunks := rfl
@[simp] theorem State.drawn_fibreTable : (s.drawn).fibreTable = s.fibreTable := rfl
@[simp] theorem State.drawn_armedList : (s.drawn).armedList = s.armedList := rfl
@[simp] theorem State.drawn_image : (s.drawn).image = s.image := rfl
@[simp] theorem State.drawn_links : (s.drawn).links = s.links := rfl
@[simp] theorem State.drawn_sweeps : (s.drawn).sweeps = s.sweeps := rfl
@[simp] theorem State.drawn_timing : (s.drawn).timing = s.timing := rfl
@[simp] theorem State.drawn_link : (s.drawn).link = s.link := rfl
@[simp] theorem State.drawn_faults : (s.drawn).faults = s.faults := rfl
@[simp] theorem State.drawn_channel : (s.drawn).channel = s.channel := rfl
@[simp] theorem State.drawn_due : (s.drawn).due = s.due := rfl
@[simp] theorem State.drawn_draws : (s.drawn).draws = s.draws + 1 := rfl
@[simp] theorem State.drawn_pending : (s.drawn).pending = s.pending := rfl

/-! `State.setIndexLost` -/

@[simp] theorem State.setIndexLost_straps (p : Port) (lost : Bool) : (s.setIndexLost p lost).straps = s.straps := rfl
@[simp] theorem State.setIndexLost_port (p : Port) (lost : Bool) : (s.setIndexLost p lost).port = s.port := rfl
@[simp] theorem State.setIndexLost_arbiter (p : Port) (lost : Bool) : (s.setIndexLost p lost).arbiter = s.arbiter := rfl
@[simp] theorem State.setIndexLost_store (p : Port) (lost : Bool) : (s.setIndexLost p lost).store = s.store := rfl
@[simp] theorem State.setIndexLost_trunks (p : Port) (lost : Bool) : (s.setIndexLost p lost).trunks = s.trunks.set p.val { s.trunk p with indexLost := lost } p.isLt := rfl
@[simp] theorem State.setIndexLost_fibreTable (p : Port) (lost : Bool) : (s.setIndexLost p lost).fibreTable = s.fibreTable := rfl
@[simp] theorem State.setIndexLost_armedList (p : Port) (lost : Bool) : (s.setIndexLost p lost).armedList = s.armedList := rfl
@[simp] theorem State.setIndexLost_image (p : Port) (lost : Bool) : (s.setIndexLost p lost).image = s.image := rfl
@[simp] theorem State.setIndexLost_links (p : Port) (lost : Bool) : (s.setIndexLost p lost).links = s.links := rfl
@[simp] theorem State.setIndexLost_sweeps (p : Port) (lost : Bool) : (s.setIndexLost p lost).sweeps = s.sweeps := rfl
@[simp] theorem State.setIndexLost_timing (p : Port) (lost : Bool) : (s.setIndexLost p lost).timing = s.timing := rfl
@[simp] theorem State.setIndexLost_link (p : Port) (lost : Bool) : (s.setIndexLost p lost).link = s.link := rfl
@[simp] theorem State.setIndexLost_faults (p : Port) (lost : Bool) : (s.setIndexLost p lost).faults = s.faults := rfl
@[simp] theorem State.setIndexLost_channel (p : Port) (lost : Bool) : (s.setIndexLost p lost).channel = s.channel := rfl
@[simp] theorem State.setIndexLost_due (p : Port) (lost : Bool) : (s.setIndexLost p lost).due = s.due := rfl
@[simp] theorem State.setIndexLost_draws (p : Port) (lost : Bool) : (s.setIndexLost p lost).draws = s.draws := rfl
@[simp] theorem State.setIndexLost_pending (p : Port) (lost : Bool) : (s.setIndexLost p lost).pending = s.pending := rfl

/-! `State.freeLinks` -/

@[simp] theorem State.freeLinks_straps (p : Port) : (s.freeLinks p).straps = s.straps := rfl
@[simp] theorem State.freeLinks_port (p : Port) : (s.freeLinks p).port = s.port := rfl
@[simp] theorem State.freeLinks_arbiter (p : Port) : (s.freeLinks p).arbiter = s.arbiter := rfl
@[simp] theorem State.freeLinks_store (p : Port) : (s.freeLinks p).store = s.store := rfl
@[simp] theorem State.freeLinks_trunks (p : Port) : (s.freeLinks p).trunks = s.trunks := rfl
@[simp] theorem State.freeLinks_fibreTable (p : Port) : (s.freeLinks p).fibreTable = s.fibreTable := rfl
@[simp] theorem State.freeLinks_armedList (p : Port) : (s.freeLinks p).armedList = s.armedList := rfl
@[simp] theorem State.freeLinks_image (p : Port) : (s.freeLinks p).image = s.image := rfl
@[simp] theorem State.freeLinks_links (p : Port) : (s.freeLinks p).links = s.links.filter (fun l => l.talker.port != p) := rfl
@[simp] theorem State.freeLinks_sweeps (p : Port) : (s.freeLinks p).sweeps = s.sweeps := rfl
@[simp] theorem State.freeLinks_timing (p : Port) : (s.freeLinks p).timing = s.timing := rfl
@[simp] theorem State.freeLinks_link (p : Port) : (s.freeLinks p).link = s.link := rfl
@[simp] theorem State.freeLinks_faults (p : Port) : (s.freeLinks p).faults = s.faults := rfl
@[simp] theorem State.freeLinks_channel (p : Port) : (s.freeLinks p).channel = s.channel := rfl
@[simp] theorem State.freeLinks_due (p : Port) : (s.freeLinks p).due = s.due := rfl
@[simp] theorem State.freeLinks_draws (p : Port) : (s.freeLinks p).draws = s.draws := rfl
@[simp] theorem State.freeLinks_pending (p : Port) : (s.freeLinks p).pending = s.pending := rfl

/-! `State.clearIndex` -/

@[simp] theorem State.clearIndex_straps (p : Port) : (s.clearIndex p).straps = s.straps := rfl
@[simp] theorem State.clearIndex_port (p : Port) : (s.clearIndex p).port = s.port := rfl
@[simp] theorem State.clearIndex_arbiter (p : Port) : (s.clearIndex p).arbiter = s.arbiter := rfl
@[simp] theorem State.clearIndex_store (p : Port) : (s.clearIndex p).store = s.store := rfl
@[simp] theorem State.clearIndex_fibreTable (p : Port) : (s.clearIndex p).fibreTable = s.fibreTable := rfl
@[simp] theorem State.clearIndex_armedList (p : Port) : (s.clearIndex p).armedList = s.armedList := rfl
@[simp] theorem State.clearIndex_image (p : Port) : (s.clearIndex p).image = s.image := rfl
@[simp] theorem State.clearIndex_links (p : Port) : (s.clearIndex p).links = s.links.filter (fun l => l.talker.port != p) := rfl
@[simp] theorem State.clearIndex_sweeps (p : Port) : (s.clearIndex p).sweeps = s.sweeps := rfl
@[simp] theorem State.clearIndex_timing (p : Port) : (s.clearIndex p).timing = s.timing := rfl
@[simp] theorem State.clearIndex_link (p : Port) : (s.clearIndex p).link = s.link := rfl
@[simp] theorem State.clearIndex_faults (p : Port) : (s.clearIndex p).faults = s.faults := rfl
@[simp] theorem State.clearIndex_channel (p : Port) : (s.clearIndex p).channel = s.channel := rfl
@[simp] theorem State.clearIndex_due (p : Port) : (s.clearIndex p).due = s.due := rfl
@[simp] theorem State.clearIndex_draws (p : Port) : (s.clearIndex p).draws = s.draws := rfl
@[simp] theorem State.clearIndex_pending (p : Port) : (s.clearIndex p).pending = s.pending := rfl

/-! `State.removeLink` -/

@[simp] theorem State.removeLink_straps (l : Link) : (s.removeLink l).straps = s.straps := rfl
@[simp] theorem State.removeLink_port (l : Link) : (s.removeLink l).port = s.port := rfl
@[simp] theorem State.removeLink_arbiter (l : Link) : (s.removeLink l).arbiter = s.arbiter := rfl
@[simp] theorem State.removeLink_store (l : Link) : (s.removeLink l).store = s.store := rfl
@[simp] theorem State.removeLink_trunks (l : Link) : (s.removeLink l).trunks = s.trunks := rfl
@[simp] theorem State.removeLink_fibreTable (l : Link) : (s.removeLink l).fibreTable = s.fibreTable := rfl
@[simp] theorem State.removeLink_armedList (l : Link) : (s.removeLink l).armedList = s.armedList := rfl
@[simp] theorem State.removeLink_image (l : Link) : (s.removeLink l).image = s.image := rfl
@[simp] theorem State.removeLink_links (l : Link) : (s.removeLink l).links = s.links.filter (fun m => m.listener != l.listener) := rfl
@[simp] theorem State.removeLink_sweeps (l : Link) : (s.removeLink l).sweeps = s.sweeps.map (s.cursorAfterRemoval l.talker l.listener) := rfl
@[simp] theorem State.removeLink_timing (l : Link) : (s.removeLink l).timing = s.timing := rfl
@[simp] theorem State.removeLink_link (l : Link) : (s.removeLink l).link = s.link := rfl
@[simp] theorem State.removeLink_faults (l : Link) : (s.removeLink l).faults = s.faults := rfl
@[simp] theorem State.removeLink_channel (l : Link) : (s.removeLink l).channel = s.channel := rfl
@[simp] theorem State.removeLink_due (l : Link) : (s.removeLink l).due = s.due := rfl
@[simp] theorem State.removeLink_draws (l : Link) : (s.removeLink l).draws = s.draws := rfl
@[simp] theorem State.removeLink_pending (l : Link) : (s.removeLink l).pending = s.pending := rfl

/-! `State.queueSweep` -/

@[simp] theorem State.queueSweep_straps (kind : SweepKind) (p : Port) : (s.queueSweep kind p).straps = s.straps := rfl
@[simp] theorem State.queueSweep_port (kind : SweepKind) (p : Port) : (s.queueSweep kind p).port = s.port := rfl
@[simp] theorem State.queueSweep_arbiter (kind : SweepKind) (p : Port) : (s.queueSweep kind p).arbiter = s.arbiter := rfl
@[simp] theorem State.queueSweep_store (kind : SweepKind) (p : Port) : (s.queueSweep kind p).store = s.store := rfl
@[simp] theorem State.queueSweep_trunks (kind : SweepKind) (p : Port) : (s.queueSweep kind p).trunks = s.trunks := rfl
@[simp] theorem State.queueSweep_fibreTable (kind : SweepKind) (p : Port) : (s.queueSweep kind p).fibreTable = s.fibreTable := rfl
@[simp] theorem State.queueSweep_armedList (kind : SweepKind) (p : Port) : (s.queueSweep kind p).armedList = s.armedList := rfl
@[simp] theorem State.queueSweep_image (kind : SweepKind) (p : Port) : (s.queueSweep kind p).image = s.image := rfl
@[simp] theorem State.queueSweep_links (kind : SweepKind) (p : Port) : (s.queueSweep kind p).links = s.links := rfl
@[simp] theorem State.queueSweep_timing (kind : SweepKind) (p : Port) : (s.queueSweep kind p).timing = s.timing := rfl
@[simp] theorem State.queueSweep_link (kind : SweepKind) (p : Port) : (s.queueSweep kind p).link = s.link := rfl
@[simp] theorem State.queueSweep_faults (kind : SweepKind) (p : Port) : (s.queueSweep kind p).faults = s.faults := rfl
@[simp] theorem State.queueSweep_channel (kind : SweepKind) (p : Port) : (s.queueSweep kind p).channel = s.channel := rfl
@[simp] theorem State.queueSweep_due (kind : SweepKind) (p : Port) : (s.queueSweep kind p).due = s.due := rfl
@[simp] theorem State.queueSweep_draws (kind : SweepKind) (p : Port) : (s.queueSweep kind p).draws = s.draws := rfl
@[simp] theorem State.queueSweep_pending (kind : SweepKind) (p : Port) : (s.queueSweep kind p).pending = s.pending := rfl

/-! `State.removeSweep` -/

@[simp] theorem State.removeSweep_straps (p : Port) : (s.removeSweep p).straps = s.straps := rfl
@[simp] theorem State.removeSweep_port (p : Port) : (s.removeSweep p).port = s.port := rfl
@[simp] theorem State.removeSweep_arbiter (p : Port) : (s.removeSweep p).arbiter = s.arbiter := rfl
@[simp] theorem State.removeSweep_store (p : Port) : (s.removeSweep p).store = s.store := rfl
@[simp] theorem State.removeSweep_trunks (p : Port) : (s.removeSweep p).trunks = s.trunks := rfl
@[simp] theorem State.removeSweep_fibreTable (p : Port) : (s.removeSweep p).fibreTable = s.fibreTable := rfl
@[simp] theorem State.removeSweep_armedList (p : Port) : (s.removeSweep p).armedList = s.armedList := rfl
@[simp] theorem State.removeSweep_image (p : Port) : (s.removeSweep p).image = s.image := rfl
@[simp] theorem State.removeSweep_links (p : Port) : (s.removeSweep p).links = s.links := rfl
@[simp] theorem State.removeSweep_sweeps (p : Port) : (s.removeSweep p).sweeps = s.sweeps.filter (fun sw => sw.trunk != p) := rfl
@[simp] theorem State.removeSweep_timing (p : Port) : (s.removeSweep p).timing = s.timing := rfl
@[simp] theorem State.removeSweep_link (p : Port) : (s.removeSweep p).link = s.link := rfl
@[simp] theorem State.removeSweep_faults (p : Port) : (s.removeSweep p).faults = s.faults := rfl
@[simp] theorem State.removeSweep_channel (p : Port) : (s.removeSweep p).channel = s.channel := rfl
@[simp] theorem State.removeSweep_due (p : Port) : (s.removeSweep p).due = s.due := rfl
@[simp] theorem State.removeSweep_draws (p : Port) : (s.removeSweep p).draws = s.draws := rfl
@[simp] theorem State.removeSweep_pending (p : Port) : (s.removeSweep p).pending = s.pending := rfl

/-! `State.replaceRoll` -/

@[simp] theorem State.replaceRoll_straps (p : Port) : (s.replaceRoll p).straps = s.straps := rfl
@[simp] theorem State.replaceRoll_port (p : Port) : (s.replaceRoll p).port = s.port := rfl
@[simp] theorem State.replaceRoll_arbiter (p : Port) : (s.replaceRoll p).arbiter = s.arbiter := rfl
@[simp] theorem State.replaceRoll_store (p : Port) : (s.replaceRoll p).store = s.store := rfl
@[simp] theorem State.replaceRoll_trunks (p : Port) : (s.replaceRoll p).trunks = s.trunks := rfl
@[simp] theorem State.replaceRoll_fibreTable (p : Port) : (s.replaceRoll p).fibreTable = s.fibreTable := rfl
@[simp] theorem State.replaceRoll_armedList (p : Port) : (s.replaceRoll p).armedList = s.armedList := rfl
@[simp] theorem State.replaceRoll_image (p : Port) : (s.replaceRoll p).image = s.image := rfl
@[simp] theorem State.replaceRoll_links (p : Port) : (s.replaceRoll p).links = s.links := rfl
@[simp] theorem State.replaceRoll_timing (p : Port) : (s.replaceRoll p).timing = s.timing := rfl
@[simp] theorem State.replaceRoll_link (p : Port) : (s.replaceRoll p).link = s.link := rfl
@[simp] theorem State.replaceRoll_faults (p : Port) : (s.replaceRoll p).faults = s.faults := rfl
@[simp] theorem State.replaceRoll_channel (p : Port) : (s.replaceRoll p).channel = s.channel := rfl
@[simp] theorem State.replaceRoll_due (p : Port) : (s.replaceRoll p).due = s.due := rfl
@[simp] theorem State.replaceRoll_draws (p : Port) : (s.replaceRoll p).draws = s.draws := rfl
@[simp] theorem State.replaceRoll_pending (p : Port) : (s.replaceRoll p).pending = s.pending := rfl

/-! `State.setSweep` -/

@[simp] theorem State.setSweep_straps (sw : Sweep) : (s.setSweep sw).straps = s.straps := rfl
@[simp] theorem State.setSweep_port (sw : Sweep) : (s.setSweep sw).port = s.port := rfl
@[simp] theorem State.setSweep_arbiter (sw : Sweep) : (s.setSweep sw).arbiter = s.arbiter := rfl
@[simp] theorem State.setSweep_store (sw : Sweep) : (s.setSweep sw).store = s.store := rfl
@[simp] theorem State.setSweep_trunks (sw : Sweep) : (s.setSweep sw).trunks = s.trunks := rfl
@[simp] theorem State.setSweep_fibreTable (sw : Sweep) : (s.setSweep sw).fibreTable = s.fibreTable := rfl
@[simp] theorem State.setSweep_armedList (sw : Sweep) : (s.setSweep sw).armedList = s.armedList := rfl
@[simp] theorem State.setSweep_image (sw : Sweep) : (s.setSweep sw).image = s.image := rfl
@[simp] theorem State.setSweep_links (sw : Sweep) : (s.setSweep sw).links = s.links := rfl
@[simp] theorem State.setSweep_sweeps (sw : Sweep) : (s.setSweep sw).sweeps = s.sweeps.map (fun old => if old.trunk = sw.trunk then sw else old) := rfl
@[simp] theorem State.setSweep_timing (sw : Sweep) : (s.setSweep sw).timing = s.timing := rfl
@[simp] theorem State.setSweep_link (sw : Sweep) : (s.setSweep sw).link = s.link := rfl
@[simp] theorem State.setSweep_faults (sw : Sweep) : (s.setSweep sw).faults = s.faults := rfl
@[simp] theorem State.setSweep_channel (sw : Sweep) : (s.setSweep sw).channel = s.channel := rfl
@[simp] theorem State.setSweep_due (sw : Sweep) : (s.setSweep sw).due = s.due := rfl
@[simp] theorem State.setSweep_draws (sw : Sweep) : (s.setSweep sw).draws = s.draws := rfl
@[simp] theorem State.setSweep_pending (sw : Sweep) : (s.setSweep sw).pending = s.pending := rfl

/-! `State.leaveArmedList` -/

@[simp] theorem State.leaveArmedList_straps (p : Port) : (s.leaveArmedList p).straps = s.straps := rfl
@[simp] theorem State.leaveArmedList_port (p : Port) : (s.leaveArmedList p).port = s.port := rfl
@[simp] theorem State.leaveArmedList_arbiter (p : Port) : (s.leaveArmedList p).arbiter = s.arbiter := rfl
@[simp] theorem State.leaveArmedList_store (p : Port) : (s.leaveArmedList p).store = s.store := rfl
@[simp] theorem State.leaveArmedList_trunks (p : Port) : (s.leaveArmedList p).trunks = s.trunks := rfl
@[simp] theorem State.leaveArmedList_fibreTable (p : Port) : (s.leaveArmedList p).fibreTable = s.fibreTable := rfl
@[simp] theorem State.leaveArmedList_armedList (p : Port) : (s.leaveArmedList p).armedList = s.armedList.erase p := rfl
@[simp] theorem State.leaveArmedList_image (p : Port) : (s.leaveArmedList p).image = s.image := rfl
@[simp] theorem State.leaveArmedList_links (p : Port) : (s.leaveArmedList p).links = s.links := rfl
@[simp] theorem State.leaveArmedList_sweeps (p : Port) : (s.leaveArmedList p).sweeps = s.sweeps := rfl
@[simp] theorem State.leaveArmedList_timing (p : Port) : (s.leaveArmedList p).timing = s.timing := rfl
@[simp] theorem State.leaveArmedList_link (p : Port) : (s.leaveArmedList p).link = s.link := rfl
@[simp] theorem State.leaveArmedList_faults (p : Port) : (s.leaveArmedList p).faults = s.faults := rfl
@[simp] theorem State.leaveArmedList_channel (p : Port) : (s.leaveArmedList p).channel = s.channel := rfl
@[simp] theorem State.leaveArmedList_due (p : Port) : (s.leaveArmedList p).due = s.due := rfl
@[simp] theorem State.leaveArmedList_draws (p : Port) : (s.leaveArmedList p).draws = s.draws := rfl
@[simp] theorem State.leaveArmedList_pending (p : Port) : (s.leaveArmedList p).pending = s.pending := rfl

/-! `State.changeTrunk` -/

@[simp] theorem State.changeTrunk_straps (p : Port) (r : TrunkRecord) : (s.changeTrunk p r).straps = s.straps := rfl
@[simp] theorem State.changeTrunk_port (p : Port) (r : TrunkRecord) : (s.changeTrunk p r).port = s.port := rfl
@[simp] theorem State.changeTrunk_arbiter (p : Port) (r : TrunkRecord) : (s.changeTrunk p r).arbiter = s.arbiter := rfl
@[simp] theorem State.changeTrunk_store (p : Port) (r : TrunkRecord) : (s.changeTrunk p r).store = s.store := rfl
@[simp] theorem State.changeTrunk_trunks (p : Port) (r : TrunkRecord) : (s.changeTrunk p r).trunks = s.trunks.set p.val r p.isLt := rfl
@[simp] theorem State.changeTrunk_fibreTable (p : Port) (r : TrunkRecord) : (s.changeTrunk p r).fibreTable = s.fibreTable := rfl
@[simp] theorem State.changeTrunk_armedList (p : Port) (r : TrunkRecord) : (s.changeTrunk p r).armedList = s.armedList := rfl
@[simp] theorem State.changeTrunk_image (p : Port) (r : TrunkRecord) : (s.changeTrunk p r).image = s.image := rfl
@[simp] theorem State.changeTrunk_links (p : Port) (r : TrunkRecord) : (s.changeTrunk p r).links = s.links := rfl
@[simp] theorem State.changeTrunk_sweeps (p : Port) (r : TrunkRecord) : (s.changeTrunk p r).sweeps = s.sweeps := rfl
@[simp] theorem State.changeTrunk_timing (p : Port) (r : TrunkRecord) : (s.changeTrunk p r).timing = s.timing := rfl
@[simp] theorem State.changeTrunk_link (p : Port) (r : TrunkRecord) : (s.changeTrunk p r).link = { s.link with changePending := true } := rfl
@[simp] theorem State.changeTrunk_faults (p : Port) (r : TrunkRecord) : (s.changeTrunk p r).faults = s.faults := rfl
@[simp] theorem State.changeTrunk_channel (p : Port) (r : TrunkRecord) : (s.changeTrunk p r).channel = s.channel := rfl
@[simp] theorem State.changeTrunk_due (p : Port) (r : TrunkRecord) : (s.changeTrunk p r).due = s.due := rfl
@[simp] theorem State.changeTrunk_draws (p : Port) (r : TrunkRecord) : (s.changeTrunk p r).draws = s.draws := rfl
@[simp] theorem State.changeTrunk_pending (p : Port) (r : TrunkRecord) : (s.changeTrunk p r).pending = s.pending := rfl

/-! `State.giveReady` -/

@[simp] theorem State.giveReady_straps : (s.giveReady).straps = s.straps := rfl
@[simp] theorem State.giveReady_port : (s.giveReady).port = { s.port with cycle := none } := rfl
@[simp] theorem State.giveReady_arbiter : (s.giveReady).arbiter = s.arbiter := rfl
@[simp] theorem State.giveReady_store : (s.giveReady).store = s.store := rfl
@[simp] theorem State.giveReady_trunks : (s.giveReady).trunks = s.trunks := rfl
@[simp] theorem State.giveReady_fibreTable : (s.giveReady).fibreTable = s.fibreTable := rfl
@[simp] theorem State.giveReady_armedList : (s.giveReady).armedList = s.armedList := rfl
@[simp] theorem State.giveReady_image : (s.giveReady).image = s.image := rfl
@[simp] theorem State.giveReady_links : (s.giveReady).links = s.links := rfl
@[simp] theorem State.giveReady_sweeps : (s.giveReady).sweeps = s.sweeps := rfl
@[simp] theorem State.giveReady_timing : (s.giveReady).timing = s.timing := rfl
@[simp] theorem State.giveReady_link : (s.giveReady).link = s.link := rfl
@[simp] theorem State.giveReady_faults : (s.giveReady).faults = s.faults := rfl
@[simp] theorem State.giveReady_channel : (s.giveReady).channel = s.channel := rfl
@[simp] theorem State.giveReady_due : (s.giveReady).due = s.due := rfl
@[simp] theorem State.giveReady_draws : (s.giveReady).draws = s.draws := rfl
@[simp] theorem State.giveReady_pending : (s.giveReady).pending = s.pending := rfl

/-! `State.giveReadyWith` -/

@[simp] theorem State.giveReadyWith_straps (w : Word) : (s.giveReadyWith w).straps = s.straps := rfl
@[simp] theorem State.giveReadyWith_port (w : Word) : (s.giveReadyWith w).port = { cycle := none, readData := w } := rfl
@[simp] theorem State.giveReadyWith_arbiter (w : Word) : (s.giveReadyWith w).arbiter = s.arbiter := rfl
@[simp] theorem State.giveReadyWith_store (w : Word) : (s.giveReadyWith w).store = s.store := rfl
@[simp] theorem State.giveReadyWith_trunks (w : Word) : (s.giveReadyWith w).trunks = s.trunks := rfl
@[simp] theorem State.giveReadyWith_fibreTable (w : Word) : (s.giveReadyWith w).fibreTable = s.fibreTable := rfl
@[simp] theorem State.giveReadyWith_armedList (w : Word) : (s.giveReadyWith w).armedList = s.armedList := rfl
@[simp] theorem State.giveReadyWith_image (w : Word) : (s.giveReadyWith w).image = s.image := rfl
@[simp] theorem State.giveReadyWith_links (w : Word) : (s.giveReadyWith w).links = s.links := rfl
@[simp] theorem State.giveReadyWith_sweeps (w : Word) : (s.giveReadyWith w).sweeps = s.sweeps := rfl
@[simp] theorem State.giveReadyWith_timing (w : Word) : (s.giveReadyWith w).timing = s.timing := rfl
@[simp] theorem State.giveReadyWith_link (w : Word) : (s.giveReadyWith w).link = s.link := rfl
@[simp] theorem State.giveReadyWith_faults (w : Word) : (s.giveReadyWith w).faults = s.faults := rfl
@[simp] theorem State.giveReadyWith_channel (w : Word) : (s.giveReadyWith w).channel = s.channel := rfl
@[simp] theorem State.giveReadyWith_due (w : Word) : (s.giveReadyWith w).due = s.due := rfl
@[simp] theorem State.giveReadyWith_draws (w : Word) : (s.giveReadyWith w).draws = s.draws := rfl
@[simp] theorem State.giveReadyWith_pending (w : Word) : (s.giveReadyWith w).pending = s.pending := rfl

/-! `State.setSync` -/

@[simp] theorem State.setSync_straps (y : SyncState) : (s.setSync y).straps = s.straps := rfl
@[simp] theorem State.setSync_port (y : SyncState) : (s.setSync y).port = s.port := rfl
@[simp] theorem State.setSync_arbiter (y : SyncState) : (s.setSync y).arbiter = s.arbiter := rfl
@[simp] theorem State.setSync_store (y : SyncState) : (s.setSync y).store = s.store := rfl
@[simp] theorem State.setSync_trunks (y : SyncState) : (s.setSync y).trunks = s.trunks := rfl
@[simp] theorem State.setSync_fibreTable (y : SyncState) : (s.setSync y).fibreTable = s.fibreTable := rfl
@[simp] theorem State.setSync_armedList (y : SyncState) : (s.setSync y).armedList = s.armedList := rfl
@[simp] theorem State.setSync_image (y : SyncState) : (s.setSync y).image = s.image := rfl
@[simp] theorem State.setSync_links (y : SyncState) : (s.setSync y).links = s.links := rfl
@[simp] theorem State.setSync_sweeps (y : SyncState) : (s.setSync y).sweeps = s.sweeps := rfl
@[simp] theorem State.setSync_timing (y : SyncState) : (s.setSync y).timing = { s.timing with sync := y } := rfl
@[simp] theorem State.setSync_link (y : SyncState) : (s.setSync y).link = s.link := rfl
@[simp] theorem State.setSync_faults (y : SyncState) : (s.setSync y).faults = s.faults := rfl
@[simp] theorem State.setSync_channel (y : SyncState) : (s.setSync y).channel = s.channel := rfl
@[simp] theorem State.setSync_due (y : SyncState) : (s.setSync y).due = s.due := rfl
@[simp] theorem State.setSync_draws (y : SyncState) : (s.setSync y).draws = s.draws := rfl
@[simp] theorem State.setSync_pending (y : SyncState) : (s.setSync y).pending = s.pending := rfl

/-! `State.setLock` -/

@[simp] theorem State.setLock_straps (p : Port) (l : Lock) : (s.setLock p l).straps = s.straps := rfl
@[simp] theorem State.setLock_port (p : Port) (l : Lock) : (s.setLock p l).port = s.port := rfl
@[simp] theorem State.setLock_arbiter (p : Port) (l : Lock) : (s.setLock p l).arbiter = s.arbiter := rfl
@[simp] theorem State.setLock_store (p : Port) (l : Lock) : (s.setLock p l).store = s.store := rfl
@[simp] theorem State.setLock_trunks (p : Port) (l : Lock) : (s.setLock p l).trunks = s.trunks.set p.val { s.trunk p with lock := l } p.isLt := rfl
@[simp] theorem State.setLock_fibreTable (p : Port) (l : Lock) : (s.setLock p l).fibreTable = s.fibreTable := rfl
@[simp] theorem State.setLock_armedList (p : Port) (l : Lock) : (s.setLock p l).armedList = s.armedList := rfl
@[simp] theorem State.setLock_image (p : Port) (l : Lock) : (s.setLock p l).image = s.image := rfl
@[simp] theorem State.setLock_links (p : Port) (l : Lock) : (s.setLock p l).links = s.links := rfl
@[simp] theorem State.setLock_sweeps (p : Port) (l : Lock) : (s.setLock p l).sweeps = s.sweeps := rfl
@[simp] theorem State.setLock_timing (p : Port) (l : Lock) : (s.setLock p l).timing = s.timing := rfl
@[simp] theorem State.setLock_link (p : Port) (l : Lock) : (s.setLock p l).link = s.link := rfl
@[simp] theorem State.setLock_faults (p : Port) (l : Lock) : (s.setLock p l).faults = s.faults := rfl
@[simp] theorem State.setLock_channel (p : Port) (l : Lock) : (s.setLock p l).channel = s.channel := rfl
@[simp] theorem State.setLock_due (p : Port) (l : Lock) : (s.setLock p l).due = s.due := rfl
@[simp] theorem State.setLock_draws (p : Port) (l : Lock) : (s.setLock p l).draws = s.draws := rfl
@[simp] theorem State.setLock_pending (p : Port) (l : Lock) : (s.setLock p l).pending = s.pending := rfl

/-! `State.setSlot` -/

@[simp] theorem State.setSlot_straps (p : Port) (c : ImageSlot) : (s.setSlot p c).straps = s.straps := rfl
@[simp] theorem State.setSlot_port (p : Port) (c : ImageSlot) : (s.setSlot p c).port = s.port := rfl
@[simp] theorem State.setSlot_arbiter (p : Port) (c : ImageSlot) : (s.setSlot p c).arbiter = s.arbiter := rfl
@[simp] theorem State.setSlot_store (p : Port) (c : ImageSlot) : (s.setSlot p c).store = s.store := rfl
@[simp] theorem State.setSlot_trunks (p : Port) (c : ImageSlot) : (s.setSlot p c).trunks = s.trunks := rfl
@[simp] theorem State.setSlot_fibreTable (p : Port) (c : ImageSlot) : (s.setSlot p c).fibreTable = s.fibreTable := rfl
@[simp] theorem State.setSlot_armedList (p : Port) (c : ImageSlot) : (s.setSlot p c).armedList = s.armedList := rfl
@[simp] theorem State.setSlot_image (p : Port) (c : ImageSlot) : (s.setSlot p c).image = { s.image with slots := s.image.slots.set p.val c p.isLt } := rfl
@[simp] theorem State.setSlot_links (p : Port) (c : ImageSlot) : (s.setSlot p c).links = s.links := rfl
@[simp] theorem State.setSlot_sweeps (p : Port) (c : ImageSlot) : (s.setSlot p c).sweeps = s.sweeps := rfl
@[simp] theorem State.setSlot_timing (p : Port) (c : ImageSlot) : (s.setSlot p c).timing = s.timing := rfl
@[simp] theorem State.setSlot_link (p : Port) (c : ImageSlot) : (s.setSlot p c).link = s.link := rfl
@[simp] theorem State.setSlot_faults (p : Port) (c : ImageSlot) : (s.setSlot p c).faults = s.faults := rfl
@[simp] theorem State.setSlot_channel (p : Port) (c : ImageSlot) : (s.setSlot p c).channel = s.channel := rfl
@[simp] theorem State.setSlot_due (p : Port) (c : ImageSlot) : (s.setSlot p c).due = s.due := rfl
@[simp] theorem State.setSlot_draws (p : Port) (c : ImageSlot) : (s.setSlot p c).draws = s.draws := rfl
@[simp] theorem State.setSlot_pending (p : Port) (c : ImageSlot) : (s.setSlot p c).pending = s.pending := rfl

/-! `State.setImageState` -/

@[simp] theorem State.setImageState_straps (i : ImageState) : (s.setImageState i).straps = s.straps := rfl
@[simp] theorem State.setImageState_port (i : ImageState) : (s.setImageState i).port = s.port := rfl
@[simp] theorem State.setImageState_arbiter (i : ImageState) : (s.setImageState i).arbiter = s.arbiter := rfl
@[simp] theorem State.setImageState_store (i : ImageState) : (s.setImageState i).store = s.store := rfl
@[simp] theorem State.setImageState_trunks (i : ImageState) : (s.setImageState i).trunks = s.trunks := rfl
@[simp] theorem State.setImageState_fibreTable (i : ImageState) : (s.setImageState i).fibreTable = s.fibreTable := rfl
@[simp] theorem State.setImageState_armedList (i : ImageState) : (s.setImageState i).armedList = s.armedList := rfl
@[simp] theorem State.setImageState_image (i : ImageState) : (s.setImageState i).image = { s.image with state := i } := rfl
@[simp] theorem State.setImageState_links (i : ImageState) : (s.setImageState i).links = s.links := rfl
@[simp] theorem State.setImageState_sweeps (i : ImageState) : (s.setImageState i).sweeps = s.sweeps := rfl
@[simp] theorem State.setImageState_timing (i : ImageState) : (s.setImageState i).timing = s.timing := rfl
@[simp] theorem State.setImageState_link (i : ImageState) : (s.setImageState i).link = s.link := rfl
@[simp] theorem State.setImageState_faults (i : ImageState) : (s.setImageState i).faults = s.faults := rfl
@[simp] theorem State.setImageState_channel (i : ImageState) : (s.setImageState i).channel = s.channel := rfl
@[simp] theorem State.setImageState_due (i : ImageState) : (s.setImageState i).due = s.due := rfl
@[simp] theorem State.setImageState_draws (i : ImageState) : (s.setImageState i).draws = s.draws := rfl
@[simp] theorem State.setImageState_pending (i : ImageState) : (s.setImageState i).pending = s.pending := rfl

end Sys2Proof.Machine
end

