-- ==== Sys2Proof/Laws/Tables.lean ====
section
/-! SUPPORT. Read after write for the tables of the state: trunk records, fibre binding table, peer views,
fault sources and image slots. -/

namespace Sys2Proof.Machine

/-! ## Vectors -/

theorem vector_get_set_self {α : Type} {n : Nat} (v : Vector α n) (i : Fin n) (x : α) :
    (v.set i.val x i.isLt)[i] = x := by simp

theorem vector_get_set_ne {α : Type} {n : Nat} (v : Vector α n) (i j : Fin n) (x : α) (h : j ≠ i) :
    (v.set i.val x i.isLt)[j] = v[j] := by
  have h' : i.val ≠ j.val := fun e => h (Fin.ext e.symm)
  simp [h']

/-! ## Trunk records (R18) -/

@[simp] theorem State.trunk_setTrunk_self (s : State) (p : Port) (r : TrunkRecord) :
    (s.setTrunk p r).trunk p = r := vector_get_set_self ..

theorem State.trunk_setTrunk_ne (s : State) {p q : Port} (r : TrunkRecord) (h : q ≠ p) :
    (s.setTrunk p r).trunk q = s.trunk q := vector_get_set_ne _ _ _ _ h

theorem State.trunk_setTrunk (s : State) (p q : Port) (r : TrunkRecord) :
    (s.setTrunk p r).trunk q = if q = p then r else s.trunk q := by
  by_cases h : q = p
  · subst h; simp
  · simp [h, State.trunk_setTrunk_ne s r h]

@[simp] theorem State.trunk_changeTrunk_self (s : State) (p : Port) (r : TrunkRecord) :
    (s.changeTrunk p r).trunk p = r := vector_get_set_self ..

theorem State.trunk_changeTrunk_ne (s : State) {p q : Port} (r : TrunkRecord) (h : q ≠ p) :
    (s.changeTrunk p r).trunk q = s.trunk q := vector_get_set_ne _ _ _ _ h

theorem State.trunk_changeTrunk (s : State) (p q : Port) (r : TrunkRecord) :
    (s.changeTrunk p r).trunk q = if q = p then r else s.trunk q := State.trunk_setTrunk s p q r

/-- A state with the same trunk table has the same records. -/
theorem State.trunk_congr {s t : State} (h : s.trunks = t.trunks) (p : Port) : s.trunk p = t.trunk p := by
  unfold State.trunk; rw [h]

/-! ## The fibre binding table (R19) -/

theorem State.boundTo_setBoundTo (s : State) (F G : FibrePort) (p : Option Port) :
    (s.setBoundTo F p).boundTo G = if G = F then p else s.boundTo G := by
  by_cases h : G = F
  · subst h; simp [State.boundTo]
  · simp only [h, if_false]; exact vector_get_set_ne _ _ _ _ h

/-! ## Peer views (R169) -/

theorem State.view_setView (s : State) (p q : Port) (v : Option PeerView) :
    (s.setView p v).view q = if q = p then v else s.view q := by
  by_cases h : q = p
  · subst h; simp [State.view]
  · simp only [h, if_false]; exact vector_get_set_ne _ _ _ _ h

/-! ## Fault sources (R179) -/

theorem FaultSource.index_injective {a b : FaultSource} (h : a.index = b.index) : a = b := by
  cases a <;> cases b <;> first | rfl | exact absurd h (by decide)

theorem State.source_setSource (s : State) (a b : FaultSource) (f : SourceState) :
    (s.setSource a f).source b = if b = a then f else s.source b := by
  by_cases h : b = a
  · subst h; simp [State.source]
  · simp only [h, if_false]
    exact vector_get_set_ne _ _ _ _ (fun e => h (FaultSource.index_injective e))

/-! ## Image slots (R30) -/

theorem State.slot_setSlot (s : State) (p q : Port) (c : ImageSlot) :
    (s.setSlot p c).slot q = if q = p then c else s.slot q := by
  by_cases h : q = p
  · subst h; simp [State.slot]
  · simp only [h, if_false]; exact vector_get_set_ne _ _ _ _ h

end Sys2Proof.Machine
end

