-- ==== Sys2Proof/Laws/Boundary.lean ====
section
/-! SUPPORT. What the operations between two store units can do: the engine and the arbiter at the end of an
event, an occurrence taken by the collector, settling, a served command, and the re-taking of bytes. -/

namespace Sys2Proof.Machine

/-! ## The engine and the end of an event (R79, R45) -/

/-- The engine touches the sweep records alone. -/
theorem State.engine_eq (s : State) : s.engine = { s with sweeps := s.engine.sweeps } := by
  unfold State.engine
  split <;> rfl

/-- A sweep that begins or switches keeps its kind, trunk and units done. -/
theorem State.begun_seen (s : State) (sw : Sweep) : (s.begun sw).seen = sw.seen := by
  unfold State.begun
  split <;> (try split) <;> rfl

/-- The engine keeps the queue as it is seen. -/
@[simp] theorem State.engine_sweepQueue (s : State) : s.engine.sweepQueue = s.sweepQueue := by
  unfold State.engine
  split
  · rename_i sw _
    simp only [State.sweepQueue, List.map_map]
    apply List.map_congr_left
    intro old _
    by_cases h : old = sw
    · simp only [Function.comp, h, if_true]
      exact s.begun_seen _
    · simp only [Function.comp, h, if_false]
  · rfl

/-- The arbiter's decision touches the arbiter alone. -/
theorem State.arbitrate_eq (s : State) : s.arbitrate = { s with arbiter := s.arbitrate.arbiter } := by
  unfold State.arbitrate
  split <;> rfl

/-- The end of an event touches the sweep records and the arbiter alone. -/
theorem State.resume_eq (s : State) :
    s.resume = { s with sweeps := s.resume.sweeps, arbiter := s.resume.arbiter } := by
  unfold State.resume
  split
  · rfl
  · rw [State.arbitrate_eq, State.engine_eq]

/-- The end of an event keeps the queue as it is seen. -/
@[simp] theorem State.resume_sweepQueue (s : State) : s.resume.sweepQueue = s.sweepQueue := by
  unfold State.resume
  split
  · rfl
  · rw [State.arbitrate_eq]
    exact s.engine_sweepQueue

/-- While a unit is in progress the end of an event does nothing. -/
theorem State.resume_busy {s : State} (h : s.arbiter.inProgress.isSome = true) : s.resume = s := by
  simp [State.resume, h]

/-- While another event waits the end of an event does nothing. -/
theorem State.resume_waiting {s : State} (h : s.eventWaits = true) : s.resume = s := by
  simp [State.resume, h]

@[simp] theorem State.resume_straps (s : State) : s.resume.straps = s.straps := by rw [State.resume_eq]
@[simp] theorem State.resume_port (s : State) : s.resume.port = s.port := by rw [State.resume_eq]
@[simp] theorem State.resume_store (s : State) : s.resume.store = s.store := by rw [State.resume_eq]
@[simp] theorem State.resume_trunks (s : State) : s.resume.trunks = s.trunks := by rw [State.resume_eq]
@[simp] theorem State.resume_fibreTable (s : State) : s.resume.fibreTable = s.fibreTable := by rw [State.resume_eq]
@[simp] theorem State.resume_armedList (s : State) : s.resume.armedList = s.armedList := by rw [State.resume_eq]
@[simp] theorem State.resume_image (s : State) : s.resume.image = s.image := by rw [State.resume_eq]
@[simp] theorem State.resume_links (s : State) : s.resume.links = s.links := by rw [State.resume_eq]
@[simp] theorem State.resume_timing (s : State) : s.resume.timing = s.timing := by rw [State.resume_eq]
@[simp] theorem State.resume_link (s : State) : s.resume.link = s.link := by rw [State.resume_eq]
@[simp] theorem State.resume_faults (s : State) : s.resume.faults = s.faults := by rw [State.resume_eq]
@[simp] theorem State.resume_channel (s : State) : s.resume.channel = s.channel := by rw [State.resume_eq]
@[simp] theorem State.resume_due (s : State) : s.resume.due = s.due := by rw [State.resume_eq]
@[simp] theorem State.resume_draws (s : State) : s.resume.draws = s.draws := by rw [State.resume_eq]
@[simp] theorem State.resume_pending (s : State) : s.resume.pending = s.pending := by rw [State.resume_eq]
@[simp] theorem State.engine_straps (s : State) : s.engine.straps = s.straps := by rw [State.engine_eq]
@[simp] theorem State.engine_port (s : State) : s.engine.port = s.port := by rw [State.engine_eq]
@[simp] theorem State.engine_arbiter (s : State) : s.engine.arbiter = s.arbiter := by rw [State.engine_eq]
@[simp] theorem State.engine_store (s : State) : s.engine.store = s.store := by rw [State.engine_eq]
@[simp] theorem State.engine_trunks (s : State) : s.engine.trunks = s.trunks := by rw [State.engine_eq]
@[simp] theorem State.engine_fibreTable (s : State) : s.engine.fibreTable = s.fibreTable := by rw [State.engine_eq]
@[simp] theorem State.engine_armedList (s : State) : s.engine.armedList = s.armedList := by rw [State.engine_eq]
@[simp] theorem State.engine_image (s : State) : s.engine.image = s.image := by rw [State.engine_eq]
@[simp] theorem State.engine_links (s : State) : s.engine.links = s.links := by rw [State.engine_eq]
@[simp] theorem State.engine_timing (s : State) : s.engine.timing = s.timing := by rw [State.engine_eq]
@[simp] theorem State.engine_link (s : State) : s.engine.link = s.link := by rw [State.engine_eq]
@[simp] theorem State.engine_faults (s : State) : s.engine.faults = s.faults := by rw [State.engine_eq]
@[simp] theorem State.engine_channel (s : State) : s.engine.channel = s.channel := by rw [State.engine_eq]
@[simp] theorem State.engine_due (s : State) : s.engine.due = s.due := by rw [State.engine_eq]
@[simp] theorem State.engine_draws (s : State) : s.engine.draws = s.draws := by rw [State.engine_eq]
@[simp] theorem State.engine_pending (s : State) : s.engine.pending = s.pending := by rw [State.engine_eq]

@[simp] theorem State.resume_trunk (s : State) (p : Port) : s.resume.trunk p = s.trunk p :=
  State.trunk_congr s.resume_trunks p
@[simp] theorem State.resume_phase (s : State) (p : Port) : s.resume.phase p = s.phase p := by
  simp [State.phase]
@[simp] theorem State.resume_boundTo (s : State) (F : FibrePort) : s.resume.boundTo F = s.boundTo F := by
  simp [State.boundTo]
@[simp] theorem State.resume_view (s : State) (p : Port) : s.resume.view p = s.view p := by simp [State.view]
@[simp] theorem State.resume_source (s : State) (src : FaultSource) : s.resume.source src = s.source src := by
  simp [State.source]
@[simp] theorem State.resume_readWord (s : State) (x : Physical) : s.resume.readWord x = s.readWord x := by
  simp [State.readWord]
@[simp] theorem State.resume_slot (s : State) (p : Port) : s.resume.slot p = s.slot p := by simp [State.slot]

/-! ## Occurrences (R180) -/

/-- An occurrence touches the fault collector alone. -/
theorem State.recordOccurrence_eq (s : State) (src : FaultSource) (t : Option Port) :
    s.recordOccurrence src t = { s with faults := (s.recordOccurrence src t).faults } := by
  unfold State.recordOccurrence State.captureFirst
  dsimp only
  (repeat' split) <;> rfl

@[simp] theorem State.recordOccurrence_straps (s : State) (src : FaultSource) (t : Option Port) :
    (s.recordOccurrence src t).straps = s.straps := by rw [State.recordOccurrence_eq]
@[simp] theorem State.recordOccurrence_port (s : State) (src : FaultSource) (t : Option Port) :
    (s.recordOccurrence src t).port = s.port := by rw [State.recordOccurrence_eq]
@[simp] theorem State.recordOccurrence_arbiter (s : State) (src : FaultSource) (t : Option Port) :
    (s.recordOccurrence src t).arbiter = s.arbiter := by rw [State.recordOccurrence_eq]
@[simp] theorem State.recordOccurrence_store (s : State) (src : FaultSource) (t : Option Port) :
    (s.recordOccurrence src t).store = s.store := by rw [State.recordOccurrence_eq]
@[simp] theorem State.recordOccurrence_trunks (s : State) (src : FaultSource) (t : Option Port) :
    (s.recordOccurrence src t).trunks = s.trunks := by rw [State.recordOccurrence_eq]
@[simp] theorem State.recordOccurrence_fibreTable (s : State) (src : FaultSource) (t : Option Port) :
    (s.recordOccurrence src t).fibreTable = s.fibreTable := by rw [State.recordOccurrence_eq]
@[simp] theorem State.recordOccurrence_armedList (s : State) (src : FaultSource) (t : Option Port) :
    (s.recordOccurrence src t).armedList = s.armedList := by rw [State.recordOccurrence_eq]
@[simp] theorem State.recordOccurrence_image (s : State) (src : FaultSource) (t : Option Port) :
    (s.recordOccurrence src t).image = s.image := by rw [State.recordOccurrence_eq]
@[simp] theorem State.recordOccurrence_links (s : State) (src : FaultSource) (t : Option Port) :
    (s.recordOccurrence src t).links = s.links := by rw [State.recordOccurrence_eq]
@[simp] theorem State.recordOccurrence_sweeps (s : State) (src : FaultSource) (t : Option Port) :
    (s.recordOccurrence src t).sweeps = s.sweeps := by rw [State.recordOccurrence_eq]
@[simp] theorem State.recordOccurrence_timing (s : State) (src : FaultSource) (t : Option Port) :
    (s.recordOccurrence src t).timing = s.timing := by rw [State.recordOccurrence_eq]
@[simp] theorem State.recordOccurrence_link (s : State) (src : FaultSource) (t : Option Port) :
    (s.recordOccurrence src t).link = s.link := by rw [State.recordOccurrence_eq]
@[simp] theorem State.recordOccurrence_channel (s : State) (src : FaultSource) (t : Option Port) :
    (s.recordOccurrence src t).channel = s.channel := by rw [State.recordOccurrence_eq]
@[simp] theorem State.recordOccurrence_due (s : State) (src : FaultSource) (t : Option Port) :
    (s.recordOccurrence src t).due = s.due := by rw [State.recordOccurrence_eq]
@[simp] theorem State.recordOccurrence_draws (s : State) (src : FaultSource) (t : Option Port) :
    (s.recordOccurrence src t).draws = s.draws := by rw [State.recordOccurrence_eq]
@[simp] theorem State.recordOccurrence_pending (s : State) (src : FaultSource) (t : Option Port) :
    (s.recordOccurrence src t).pending = s.pending := by rw [State.recordOccurrence_eq]

/-- What the collector holds for each source after an occurrence (R180 (1) to (3)). -/
theorem State.source_recordOccurrence (s : State) (src b : FaultSource) (t : Option Port) :
    (s.recordOccurrence src t).source b = if b = src then (s.source src).occurred t else s.source b := by
  have h : ∀ u : State, u.faults.sources = (s.setSource src ((s.source src).occurred t)).faults.sources →
      u.source b = if b = src then (s.source src).occurred t else s.source b := by
    intro u hu
    rw [← State.source_setSource]
    simp [State.source, hu]
  apply h
  unfold State.recordOccurrence State.captureFirst
  dsimp only
  (repeat' split) <;> rfl

/-- A fault that dispatches no fallback is the occurrence alone. -/
theorem State.raise_of_not_dispatches {s : State} {src : FaultSource} {t : Option Port}
    (h : (s.recordOccurrence src t).dispatches src = false) : s.raise src t = s.recordOccurrence src t := by
  simp [State.raise, h]

/-- An occurrence changes neither the mask nor the class of its source. -/
theorem State.dispatches_recordOccurrence (s : State) (src : FaultSource) (t : Option Port) :
    (s.recordOccurrence src t).dispatches src = s.dispatches src := by
  simp [State.dispatches, State.source_recordOccurrence, SourceState.occurred]

/-! ## Settling -/

/-- Settling takes nothing when nothing is due. -/
theorem State.settle_of_nothing_due {s : State} (h : s.somethingDue = false) : s.settle = s.resume := by
  have hn : s.settleOne = none := by
    simp only [State.somethingDue, State.eventWaits, Bool.or_eq_false_iff, Option.isSome_eq_false_iff,
      Option.isNone_iff_eq_none, Bool.not_eq_false', List.isEmpty_iff] at h
    simp [State.settleOne, State.nextDue, h.1, h.2.1, h.2.2]
  have : State.settleUpTo settleFuel s = s := by
    show State.settleUpTo (1023 + 1) s = s
    simp [State.settleUpTo, hn]
  simp [State.settle, this]

/-! ## The end of the unit in progress (R43, R85) -/

/-- A cursor move touches the cursors alone. -/
theorem State.moveCursorOf_eq (s : State) (u : Option StoreUnit) :
    s.moveCursorOf u = { s with sweeps := (s.moveCursorOf u).sweeps } := by
  unfold State.moveCursorOf
  split <;> rfl

/-- A sweep whose cursor moves keeps its kind, trunk and units done. -/
theorem State.advanced_seen (s : State) (sw : Sweep) : (s.advanced sw).seen = sw.seen := by
  unfold State.advanced
  split <;> rfl

/-- A cursor move keeps the queue as it is seen. -/
@[simp] theorem State.moveCursorOf_sweepQueue (s : State) (u : Option StoreUnit) :
    (s.moveCursorOf u).sweepQueue = s.sweepQueue := by
  unfold State.moveCursorOf
  split
  · simp only [State.sweepQueue, State.moveCursor, List.map_map]
    apply List.map_congr_left
    intro sw _
    simp only [Function.comp]
    split
    · exact s.advanced_seen sw
    · rfl
  · rfl

/-- With no unit in progress an event takes its effects at once. -/
theorem State.atUnitEnd_of_free {s : State} (effect : State → State) (h : s.arbiter.inProgress = none) :
    s.atUnitEnd effect = effect s := by
  simp [State.atUnitEnd, State.atBoundary, State.moveCursorOf, h]

/-- With no unit in progress the part stands at a unit boundary. -/
theorem State.atBoundary_of_free {s : State} (h : s.arbiter.inProgress = none) : s.atBoundary = s := by
  simp [State.atBoundary, h]

/-- The store is free at a unit boundary. -/
@[simp] theorem State.atBoundary_free (s : State) : s.atBoundary.arbiter.inProgress = none := by
  unfold State.atBoundary
  split
  · assumption
  · rfl

/-! ## Served commands and events that are due -/

/-- A row serves the command that the channel cycle completes: a refused one at once, any other at the end of the
unit in progress. -/
theorem State.serve_of_completes {s : State} {c : Command} {target : Byte} {params : List Word}
    (body : Byte → List Word → State → Answer) (h : s.completes c target params) :
    s.serve c body =
      (if Answer.refused (body target params s) then State.respond (body target params s)
       else s.atUnitEnd (fun t => State.respond (body target params t))).resume := by
  unfold State.completes at h
  simp [State.serve, h]

/-- A row of a command that the channel cycle does not complete does nothing. -/
theorem State.serve_of_not_completes {s : State} {c : Command} (body : Byte → List Word → State → Answer)
    (h : ∀ target params, ¬ s.completes c target params) : s.serve c body = s := by
  unfold State.serve
  split
  · rename_i c' target params hact
    by_cases hc : c' = c
    · subst hc; exact absurd hact (h target params)
    · simp [hc]
  · rfl

/-- The effects of CLOSE (R198). -/
theorem State.closeSession_eq (s : State) :
    s.closeSession =
      { s with channel := { state := .closed 0, lastResult := .done }, port := { s.port with cycle := none } } := rfl

/-- CLOSE at the end of the unit in progress leaves the part there as it found it, with the session closed (R41,
R198). -/
theorem State.serveClose_resumed {s : State} {target : Byte} {params : List Word}
    (h : s.completes .close target params) : s.atBoundary.closeSession.resumed s.serveClose := by
  unfold State.completes at h
  simp only [State.serveClose, h, State.atUnitEnd]
  refine ⟨?_, ?_⟩
  · rw [State.resume_eq]
    cases s.arbiter.inProgress with
    | none => rfl
    | some u => cases u <;> rfl
  · rw [State.resume_sweepQueue, State.moveCursorOf_sweepQueue]

/-- The step of an event that is due. -/
theorem State.onDue_of_mem {s : State} {d : Due} (effect : State → State) (h : d ∈ s.due) :
    s.onDue d effect = (effect (s.takeDue d)).resume := by
  simp [State.onDue, h]

/-- The step of an event that is not due does nothing. -/
theorem State.onDue_of_not_mem {s : State} {d : Due} (effect : State → State) (h : d ∉ s.due) :
    s.onDue d effect = s := by
  simp [State.onDue, h]

/-- A step of the evaluation whose turn has come. -/
theorem State.onStep_of_next {s : State} {d : Due} (effect : State → State) (h : s.nextStep = some d) :
    s.onStep d effect = (effect (s.takeDue d)).resume := by
  simp [State.onStep, h]

/-- A step of the evaluation out of turn does nothing. -/
theorem State.onStep_of_not_next {s : State} {d : Due} (effect : State → State) (h : s.nextStep ≠ some d) :
    s.onStep d effect = s := by
  simp [State.onStep, h]

/-- The response of a command (R195). -/
theorem State.respond_eq (r : Answer) :
    State.respond r =
      { r.1 with
        channel := { state := .answering (headerWord r.2.1 r.2.2.length :: r.2.2) 0, lastResult := r.2.1 },
        port := { r.1.port with cycle := none } } := rfl

/-- A served command is answered, and ends as every event does. -/
theorem State.answered_respond (r : Answer) : r.1.answered (State.respond r).resume r.2.1 r.2.2 := by
  simp [State.answered, State.respond_eq]

/-- A served command changes nothing but what its body changed, the channel, READY, the cursors and the arbiter. -/
theorem State.answers_respond (r : Answer) : r.1.answers (State.respond r).resume r.2.1 r.2.2 := by
  refine ⟨State.answered_respond r, ?_, ?_⟩
  · rw [State.resume_eq]; rfl
  · rw [State.resume_sweepQueue]; rfl

/-- The end of an event leaves the part as `State.resumed` says. -/
theorem State.resumed_resume (s : State) : s.resumed s.resume := ⟨s.resume_eq, s.resume_sweepQueue⟩

/-- A sweep queued is seen at the end of its class (R81). -/
@[simp] theorem State.queueSweep_sweepQueue (s : State) (kind : SweepKind) (p : Port) :
    (s.queueSweep kind p).sweepQueue = joinQueue s.sweepQueue kind p := by
  cases kind <;>
    simp [State.queueSweep, State.sweepQueue, joinQueue, List.filter_map, Function.comp_def, Sweep.seen, newSweep,
      SweepKind.classA]

/-- A sweep removed is no longer seen (R83, R86). -/
@[simp] theorem State.removeSweep_sweepQueue (s : State) (p : Port) :
    (s.removeSweep p).sweepQueue = s.queueWithout p := by
  simp [State.removeSweep, State.sweepQueue, State.queueWithout, List.filter_map, Function.comp_def, Sweep.seen]

/-- A ROLL replaced by an UNROLL is seen in its place (R84). -/
theorem State.replaceRoll_sweepQueue (s : State) (p : Port) :
    (s.replaceRoll p).sweepQueue =
      s.sweepQueue.map (fun e => if e.2.1 = p ∧ e.1 = .roll then (.unroll, p, 0) else e) := by
  simp only [State.replaceRoll, State.sweepQueue, List.map_map]
  apply List.map_congr_left
  intro sw _
  by_cases h : sw.trunk = p ∧ sw.kind = .roll
  · simp [Function.comp, h.1, h.2, Sweep.seen, newSweep]
  · have h2 : (decide (sw.trunk = p) && decide (sw.kind = SweepKind.roll)) = false := by
      simpa [Bool.and_eq_false_iff] using fun a => fun b => h ⟨a, b⟩
    simp [Function.comp, h2, Sweep.seen, h]

/-! ## Re-taking (R163) -/

/-- Re-taking takes each byte in turn, up to the first that makes an event due, and keeps the rest (R163). -/
theorem PeerLink.retake_retaken (l : PeerLink) (disabled : Bool) (bytes : List Byte) :
    l.retaken disabled bytes (PeerLink.retake disabled bytes l).1 (PeerLink.retake disabled bytes l).2 := by
  induction bytes generalizing l with
  | nil => exact .inl ⟨by simp, rfl, rfl⟩
  | cons b rest ih =>
    rcases h : l.takeByte disabled b with ⟨l1, _ | d⟩
    · have hr : PeerLink.retake disabled (b :: rest) l = PeerLink.retake disabled rest l1 := by
        simp [PeerLink.retake, h]
      have hl : (l.takeByte disabled b).1 = l1 := by rw [h]
      rw [hr]
      rcases ih l1 with ⟨quiet, he, ha⟩ | ⟨n, hn, quiet, hs, he, ha⟩
      · refine .inl ⟨fun n hn => ?_, he, by simpa [hl] using ha⟩
        cases n with
        | zero => simp [h]
        | succ n => simpa [hl] using quiet n (by simpa using hn)
      · refine .inr ⟨n + 1, by simpa using hn, fun i hi => ?_, by simpa [hl] using hs, by simpa [hl] using he,
          by simpa [hl] using ha⟩
        cases i with
        | zero => simp [h]
        | succ i => simpa [hl] using quiet i (by omega)
    · refine .inr ⟨0, by simp, by simp, by simp [h], by simp [PeerLink.retake, h], by simp [PeerLink.retake, h]⟩

/-- The re-taking goes on, and ends as every event does. -/
theorem State.goesOn_goOnRetaking (v : State) : v.goesOn v.goOnRetaking.resume :=
  ⟨_, _, PeerLink.retake_retaken _ _ _, State.resumed_resume _⟩

end Sys2Proof.Machine
end

