-- ==== Sys2Proof/Laws/Store.lean ====
section
/-! SUPPORT. The connection store: read after write, and that every write keeps the canonical form. -/

namespace Sys2Proof.Machine

/-- A canonical list whose addresses lie at `low` or above reads, below `low`, as the unlisted word. -/
theorem lookupWord_below {m : List (Nat × Word)} {low x : Nat} (h : canonicalFrom low m = true) (hx : x < low) :
    lookupWord m x = Config.unlistedWord := by
  induction m generalizing low with
  | nil => rfl
  | cons e rest ih =>
    obtain ⟨a, w⟩ := e
    simp only [canonicalFrom, Bool.and_eq_true, decide_eq_true_eq] at h
    have : a ≠ x := by omega
    simp [lookupWord, this, ih h.2 (by omega)]

/-- A canonical list is canonical from any lower bound. -/
theorem canonicalFrom_mono {m : List (Nat × Word)} {low low' : Nat} (h : canonicalFrom low m = true)
    (hl : low' ≤ low) : canonicalFrom low' m = true := by
  cases m with
  | nil => rfl
  | cons e rest =>
    obtain ⟨a, w⟩ := e
    simp only [canonicalFrom, Bool.and_eq_true, decide_eq_true_eq] at h ⊢
    exact ⟨⟨⟨by omega, h.1.1.2⟩, h.1.2⟩, h.2⟩

/-- A write of the store keeps the canonical form. -/
theorem canonicalFrom_insertWord {m : List (Nat × Word)} {low x : Nat} {v : Word}
    (h : canonicalFrom low m = true) (hl : low ≤ x) (hx : x < 4096) :
    canonicalFrom low (insertWord m x v) = true := by
  induction m generalizing low with
  | nil =>
    by_cases hv : v = Config.unlistedWord <;> simp [insertWord, canonicalFrom, hv, hl, hx]
  | cons e rest ih =>
    obtain ⟨a, w⟩ := e
    simp only [canonicalFrom, Bool.and_eq_true, decide_eq_true_eq] at h
    obtain ⟨⟨⟨h1, h2⟩, h3⟩, h4⟩ := h
    unfold insertWord
    by_cases hlt : x < a
    · by_cases hv : v = Config.unlistedWord
      · simp [hlt, hv, canonicalFrom, h1, h2, h3, h4]
      · simp only [hlt, if_true, hv, if_false, canonicalFrom, Bool.and_eq_true, decide_eq_true_eq]
        exact ⟨⟨⟨hl, hx⟩, by simp [hv]⟩, ⟨⟨by omega, h2⟩, h3⟩, h4⟩
    · by_cases heq : x = a
      · by_cases hv : v = Config.unlistedWord
        · simp only [heq, Nat.lt_irrefl, if_false, if_true, hv]
          exact canonicalFrom_mono h4 (by omega)
        · simp only [heq, Nat.lt_irrefl, if_false, if_true, hv, canonicalFrom, Bool.and_eq_true,
            decide_eq_true_eq]
          exact ⟨⟨⟨h1, h2⟩, by simp [hv]⟩, h4⟩
      · simp only [hlt, heq, if_false, canonicalFrom, Bool.and_eq_true, decide_eq_true_eq]
        exact ⟨⟨⟨h1, h2⟩, h3⟩, ih h4 (by omega)⟩

/-- Read after write on a canonical list. -/
theorem lookupWord_insertWord {m : List (Nat × Word)} {low : Nat} (x y : Nat) (v : Word)
    (h : canonicalFrom low m = true) :
    lookupWord (insertWord m x v) y = if y = x then v else lookupWord m y := by
  induction m generalizing low with
  | nil =>
    by_cases hv : v = Config.unlistedWord
    · simp [insertWord, lookupWord, hv]
    · by_cases hy : y = x
      · simp [insertWord, lookupWord, hv, hy]
      · have : x ≠ y := fun e => hy e.symm
        simp [insertWord, lookupWord, hv, hy, this]
  | cons e rest ih =>
    obtain ⟨a, w⟩ := e
    simp only [canonicalFrom, Bool.and_eq_true, decide_eq_true_eq] at h
    obtain ⟨⟨⟨h1, h2⟩, h3⟩, h4⟩ := h
    unfold insertWord
    by_cases hlt : x < a
    · by_cases hv : v = Config.unlistedWord
      · by_cases hy : y = x
        · have hr : lookupWord rest y = Config.unlistedWord := lookupWord_below h4 (by omega)
          have ha : a ≠ y := by omega
          simp [hlt, hv, hy, lookupWord, hy ▸ ha, hy ▸ hr]
        · simp [hlt, hv, hy]
      · by_cases hy : y = x
        · simp [hlt, hv, hy, lookupWord]
        · have : x ≠ y := fun e => hy e.symm
          simp [hlt, hv, hy, lookupWord, this]
    · by_cases heq : x = a
      · subst heq
        by_cases hy : y = x
        · subst hy
          have hr : lookupWord rest y = Config.unlistedWord := lookupWord_below h4 (by omega)
          by_cases hv : v = Config.unlistedWord <;> simp [hv, lookupWord, hr]
        · have : x ≠ y := fun e => hy e.symm
          by_cases hv : v = Config.unlistedWord <;> simp [hv, lookupWord, this, hy]
      · simp only [hlt, heq, if_false, lookupWord]
        by_cases hay : a = y
        · have : y ≠ x := by omega
          simp [hay, this]
        · simp [hay, ih h4]

/-- A store write keeps the store's canonical form. -/
theorem State.storeSound_writeWord {s : State} (x : Physical) (w : Word) (h : s.storeSound) :
    (s.writeWord x w).storeSound :=
  canonicalFrom_insertWord h (Nat.zero_le _) (by have := x.isLt; omega)

/-- The word read after a store write. -/
theorem State.readWord_writeWord {s : State} (x y : Physical) (w : Word) (h : s.storeSound) :
    (s.writeWord x w).readWord y = if y = x then w else s.readWord y := by
  unfold State.readWord State.writeWord
  rw [lookupWord_insertWord x.toNat y.toNat w h]
  by_cases hxy : y = x
  · subst hxy; simp
  · have : y.toNat ≠ x.toNat := fun e => hxy (BitVec.eq_of_toNat_eq e)
    simp [hxy, this]

/-- The store has its canonical form after reset. -/
theorem reset_storeSound : State.reset.storeSound := rfl

end Sys2Proof.Machine
end

