-- ==== Sys2Proof/Laws/Units.lean ====
section
/-! SUPPORT. What a store unit and a dispatch of fallback can do: which items of the state each may touch, and
the store after the writes of a unit. -/

namespace Sys2Proof.Machine

/-! ## The listener index (R63 to R67) -/

/-- An overflow touches the trunk table, the links and the fault collector alone. -/
theorem State.overflow_eq (s : State) (p : Port) :
    (s.overflow p).1 =
      { s with trunks := (s.overflow p).1.trunks, links := (s.overflow p).1.links,
               faults := (s.overflow p).1.faults } := by
  simp only [State.overflow]
  rw [State.recordOccurrence_eq]
  rfl

/-- An added link touches what an overflow touches. -/
theorem State.addLink_eq (s : State) (t : Talker) (x : Physical) :
    (s.addLink t x).1 =
      { s with trunks := (s.addLink t x).1.trunks, links := (s.addLink t x).1.links,
               faults := (s.addLink t x).1.faults } := by
  unfold State.addLink
  split
  · rfl
  · exact s.overflow_eq t.port

/-- The observation of a write touches the index, the sweep cursors, and, at an overflow, the trunk table and
the fault collector. -/
theorem State.observe_eq (s : State) (x : Physical) (w : Word) :
    (s.observe x w).1 =
      { s with trunks := (s.observe x w).1.trunks, links := (s.observe x w).1.links,
               sweeps := (s.observe x w).1.sweeps, faults := (s.observe x w).1.faults } := by
  unfold State.observe
  split
  · rfl
  · rw [State.addLink_eq]
  · rfl
  · split
    · rfl
    · rw [State.addLink_eq]
      simp

/-- With a link free, an added link touches the links alone and raises nothing (R64 (2)). -/
theorem State.addLink_of_free {s : State} (t : Talker) (x : Physical) (h : s.links.length < linkPoolSize) :
    s.addLink t x = ({ s with links := s.links ++ [{ talker := t, listener := x }] }, []) := by
  simp [State.addLink, h]

/-- The cursor of a sweep after a removal belongs to the same sweep. -/
theorem State.cursorAfterRemoval_seen (s : State) (t : Talker) (x : Physical) (sw : Sweep) :
    (s.cursorAfterRemoval t x sw).seen = sw.seen := by
  unfold State.cursorAfterRemoval
  (repeat' split) <;> rfl

/-- A removed link leaves the queue as it is seen. -/
theorem State.removeLink_sweepQueue (s : State) (l : Link) : (s.removeLink l).sweepQueue = s.sweepQueue := by
  simp only [State.sweepQueue, State.removeLink_sweeps, List.map_map]
  exact List.map_congr_left (fun sw _ => s.cursorAfterRemoval_seen _ _ sw)

/-- With a link free, an observation raises nothing, touches the links and the cursors alone, keeps the queue
as it is seen, and takes at most one link. -/
theorem State.observe_of_free {s : State} (x : Physical) (w : Word) (h : s.links.length < linkPoolSize) :
    (s.observe x w).2 = [] ∧
      (s.observe x w).1 =
        { s with links := (s.observe x w).1.links, sweeps := (s.observe x w).1.sweeps } ∧
      (s.observe x w).1.sweepQueue = s.sweepQueue ∧
      (s.observe x w).1.links.length ≤ s.links.length + 1 := by
  unfold State.observe
  split
  · exact ⟨rfl, rfl, rfl, Nat.le_succ _⟩
  · rw [State.addLink_of_free _ _ h]; exact ⟨rfl, rfl, rfl, by simp⟩
  · rename_i l _ _
    exact ⟨rfl, rfl, s.removeLink_sweepQueue l, Nat.le_succ_of_le (List.length_filter_le _ _)⟩
  · rename_i l t _ _
    split
    · exact ⟨rfl, rfl, rfl, Nat.le_succ _⟩
    · have hl : (s.removeLink l).links.length ≤ s.links.length := List.length_filter_le _ _
      rw [State.addLink_of_free _ _ (Nat.lt_of_le_of_lt hl h)]
      refine ⟨rfl, rfl, s.removeLink_sweepQueue l, ?_⟩
      simp only [List.length_append, List.length_singleton]
      omega

/-! ## The writes of a unit (R48, R50) -/

/-- The writes of a unit touch the store and what their observations touch. -/
theorem State.writesReported_eq (s : State) (ws : List (Physical × Word)) :
    (s.writesReported ws).1 =
      { s with store := (s.writesReported ws).1.store, trunks := (s.writesReported ws).1.trunks,
               links := (s.writesReported ws).1.links, sweeps := (s.writesReported ws).1.sweeps,
               faults := (s.writesReported ws).1.faults } := by
  induction ws generalizing s with
  | nil => rfl
  | cons xw rest ih =>
    simp only [State.writesReported, State.writeReported]
    rw [ih, State.observe_eq]
    simp

/-- The store after the writes of a unit. -/
theorem State.writesReported_store (s : State) (ws : List (Physical × Word)) :
    (s.writesReported ws).1.store = ws.foldl (fun m xw => insertWord m xw.1.toNat xw.2) s.store := by
  induction ws generalizing s with
  | nil => rfl
  | cons xw rest ih =>
    simp only [State.writesReported, State.writeReported, List.foldl_cons]
    rw [ih, State.observe_eq]
    simp

/-- The writes of a unit keep the store's canonical form. -/
theorem State.storeSound_writesReported {s : State} (ws : List (Physical × Word)) (h : s.storeSound) :
    (s.writesReported ws).1.storeSound := by
  unfold State.storeSound
  rw [State.writesReported_store]
  induction ws generalizing s with
  | nil => exact h
  | cons xw rest ih => exact ih (s := s.writeWord xw.1 xw.2) (s.storeSound_writeWord _ _ h)

/-- With links free for every write, the writes of a unit raise nothing and change no record. -/
theorem State.writesReported_of_free {s : State} (ws : List (Physical × Word))
    (h : s.links.length + ws.length ≤ linkPoolSize) :
    (s.writesReported ws).2 = [] ∧
      (s.writesReported ws).1 =
        { s with store := (s.writesReported ws).1.store, links := (s.writesReported ws).1.links,
                 sweeps := (s.writesReported ws).1.sweeps } ∧
      (s.writesReported ws).1.sweepQueue = s.sweepQueue := by
  induction ws generalizing s with
  | nil => exact ⟨rfl, rfl, rfl⟩
  | cons xw rest ih =>
    simp only [List.length_cons] at h
    simp only [State.writesReported, State.writeReported]
    obtain ⟨h1, h2, h3, h4⟩ := State.observe_of_free (s := s.writeWord xw.1 xw.2) xw.1 xw.2
      (by simp only [State.writeWord_links]; omega)
    simp only [State.writeWord_links] at h4
    obtain ⟨i1, i2, i3⟩ := ih (s := ((s.writeWord xw.1 xw.2).observe xw.1 xw.2).1) (by omega)
    refine ⟨by rw [h1, i1]; rfl, ?_, by rw [i3, h3]; rfl⟩
    rw [i2, h2]
    rfl

/-! ## Dispatch of fallback (R154, R185) -/

/-- Fallback applied to a record touches the trunk table, the armed list, the sweep queue, change pending and the
fault collector alone. -/
theorem State.applyFallback_eq (s : State) (p : Port) :
    s.applyFallback p =
      { s with trunks := (s.applyFallback p).trunks, armedList := (s.applyFallback p).armedList,
               sweeps := (s.applyFallback p).sweeps,
               link := { s.link with changePending := (s.applyFallback p).link.changePending },
               faults := (s.applyFallback p).faults } := by
  unfold State.applyFallback
  split
  · rfl
  · unfold State.enterUnrolling; dsimp only; split <;> rfl
  · unfold State.enterUnrolling; dsimp only; split <;> rfl
  · rw [State.recordOccurrence_eq]
  · rw [State.recordOccurrence_eq]
  · rw [State.recordOccurrence_eq]
  · rfl

/-- Fallback applied to several records touches what one application touches. -/
theorem State.applyFallbacks_eq (s : State) (ps : List Port) :
    ps.foldl State.applyFallback s =
      { s with trunks := (ps.foldl State.applyFallback s).trunks,
               armedList := (ps.foldl State.applyFallback s).armedList,
               sweeps := (ps.foldl State.applyFallback s).sweeps,
               link := { s.link with changePending := (ps.foldl State.applyFallback s).link.changePending },
               faults := (ps.foldl State.applyFallback s).faults } := by
  induction ps generalizing s with
  | nil => rfl
  | cons p rest ih =>
    simp only [List.foldl_cons]
    rw [ih, State.applyFallback_eq]

/-- A dispatch of fallback touches what its applications touch. -/
theorem State.dispatchFallback_eq (s : State) (t : Option Port) :
    s.dispatchFallback t =
      { s with trunks := (s.dispatchFallback t).trunks, armedList := (s.dispatchFallback t).armedList,
               sweeps := (s.dispatchFallback t).sweeps,
               link := { s.link with changePending := (s.dispatchFallback t).link.changePending },
               faults := (s.dispatchFallback t).faults } := by
  cases t with
  | none => exact s.applyFallbacks_eq _
  | some p => exact s.applyFallback_eq p

/-- The phase changes of an occurrence touch what a dispatch touches. -/
theorem State.dispatchFor_eq (s : State) (o : Occurrence) :
    s.dispatchFor o =
      { s with trunks := (s.dispatchFor o).trunks, armedList := (s.dispatchFor o).armedList,
               sweeps := (s.dispatchFor o).sweeps,
               link := { s.link with changePending := (s.dispatchFor o).link.changePending },
               faults := (s.dispatchFor o).faults } := by
  unfold State.dispatchFor
  split
  · exact s.dispatchFallback_eq o.2
  · rfl

/-- The phase changes at the end of a unit touch what a dispatch touches. -/
theorem State.dispatchAll_eq (s : State) (os : List Occurrence) :
    s.dispatchAll os =
      { s with trunks := (s.dispatchAll os).trunks, armedList := (s.dispatchAll os).armedList,
               sweeps := (s.dispatchAll os).sweeps,
               link := { s.link with changePending := (s.dispatchAll os).link.changePending },
               faults := (s.dispatchAll os).faults } := by
  unfold State.dispatchAll
  induction os generalizing s with
  | nil => rfl
  | cons o rest ih =>
    simp only [List.foldl_cons]
    rw [ih, State.dispatchFor_eq]

@[simp] theorem State.dispatchFallback_straps (s : State) (t : Option Port) : (s.dispatchFallback t).straps = s.straps := by rw [State.dispatchFallback_eq]
@[simp] theorem State.dispatchFallback_port (s : State) (t : Option Port) : (s.dispatchFallback t).port = s.port := by rw [State.dispatchFallback_eq]
@[simp] theorem State.dispatchFallback_arbiter (s : State) (t : Option Port) : (s.dispatchFallback t).arbiter = s.arbiter := by rw [State.dispatchFallback_eq]
@[simp] theorem State.dispatchFallback_store (s : State) (t : Option Port) : (s.dispatchFallback t).store = s.store := by rw [State.dispatchFallback_eq]
@[simp] theorem State.dispatchFallback_fibreTable (s : State) (t : Option Port) : (s.dispatchFallback t).fibreTable = s.fibreTable := by rw [State.dispatchFallback_eq]
@[simp] theorem State.dispatchFallback_image (s : State) (t : Option Port) : (s.dispatchFallback t).image = s.image := by rw [State.dispatchFallback_eq]
@[simp] theorem State.dispatchFallback_links (s : State) (t : Option Port) : (s.dispatchFallback t).links = s.links := by rw [State.dispatchFallback_eq]
@[simp] theorem State.dispatchFallback_timing (s : State) (t : Option Port) : (s.dispatchFallback t).timing = s.timing := by rw [State.dispatchFallback_eq]
@[simp] theorem State.dispatchFallback_channel (s : State) (t : Option Port) : (s.dispatchFallback t).channel = s.channel := by rw [State.dispatchFallback_eq]
@[simp] theorem State.dispatchFallback_due (s : State) (t : Option Port) : (s.dispatchFallback t).due = s.due := by rw [State.dispatchFallback_eq]
@[simp] theorem State.dispatchFallback_draws (s : State) (t : Option Port) : (s.dispatchFallback t).draws = s.draws := by rw [State.dispatchFallback_eq]
@[simp] theorem State.dispatchFallback_pending (s : State) (t : Option Port) : (s.dispatchFallback t).pending = s.pending := by rw [State.dispatchFallback_eq]
@[simp] theorem State.dispatchAll_straps (s : State) (os : List Occurrence) : (s.dispatchAll os).straps = s.straps := by rw [State.dispatchAll_eq]
@[simp] theorem State.dispatchAll_port (s : State) (os : List Occurrence) : (s.dispatchAll os).port = s.port := by rw [State.dispatchAll_eq]
@[simp] theorem State.dispatchAll_arbiter (s : State) (os : List Occurrence) : (s.dispatchAll os).arbiter = s.arbiter := by rw [State.dispatchAll_eq]
@[simp] theorem State.dispatchAll_store (s : State) (os : List Occurrence) : (s.dispatchAll os).store = s.store := by rw [State.dispatchAll_eq]
@[simp] theorem State.dispatchAll_fibreTable (s : State) (os : List Occurrence) : (s.dispatchAll os).fibreTable = s.fibreTable := by rw [State.dispatchAll_eq]
@[simp] theorem State.dispatchAll_image (s : State) (os : List Occurrence) : (s.dispatchAll os).image = s.image := by rw [State.dispatchAll_eq]
@[simp] theorem State.dispatchAll_links (s : State) (os : List Occurrence) : (s.dispatchAll os).links = s.links := by rw [State.dispatchAll_eq]
@[simp] theorem State.dispatchAll_timing (s : State) (os : List Occurrence) : (s.dispatchAll os).timing = s.timing := by rw [State.dispatchAll_eq]
@[simp] theorem State.dispatchAll_channel (s : State) (os : List Occurrence) : (s.dispatchAll os).channel = s.channel := by rw [State.dispatchAll_eq]
@[simp] theorem State.dispatchAll_due (s : State) (os : List Occurrence) : (s.dispatchAll os).due = s.due := by rw [State.dispatchAll_eq]
@[simp] theorem State.dispatchAll_draws (s : State) (os : List Occurrence) : (s.dispatchAll os).draws = s.draws := by rw [State.dispatchAll_eq]
@[simp] theorem State.dispatchAll_pending (s : State) (os : List Occurrence) : (s.dispatchAll os).pending = s.pending := by rw [State.dispatchAll_eq]
@[simp] theorem State.writesReported_straps (s : State) (ws : List (Physical × Word)) :
    (s.writesReported ws).1.straps = s.straps := by rw [State.writesReported_eq]
@[simp] theorem State.writesReported_port (s : State) (ws : List (Physical × Word)) :
    (s.writesReported ws).1.port = s.port := by rw [State.writesReported_eq]
@[simp] theorem State.writesReported_arbiter (s : State) (ws : List (Physical × Word)) :
    (s.writesReported ws).1.arbiter = s.arbiter := by rw [State.writesReported_eq]
@[simp] theorem State.writesReported_fibreTable (s : State) (ws : List (Physical × Word)) :
    (s.writesReported ws).1.fibreTable = s.fibreTable := by rw [State.writesReported_eq]
@[simp] theorem State.writesReported_armedList (s : State) (ws : List (Physical × Word)) :
    (s.writesReported ws).1.armedList = s.armedList := by rw [State.writesReported_eq]
@[simp] theorem State.writesReported_image (s : State) (ws : List (Physical × Word)) :
    (s.writesReported ws).1.image = s.image := by rw [State.writesReported_eq]
@[simp] theorem State.writesReported_timing (s : State) (ws : List (Physical × Word)) :
    (s.writesReported ws).1.timing = s.timing := by rw [State.writesReported_eq]
@[simp] theorem State.writesReported_link (s : State) (ws : List (Physical × Word)) :
    (s.writesReported ws).1.link = s.link := by rw [State.writesReported_eq]
@[simp] theorem State.writesReported_channel (s : State) (ws : List (Physical × Word)) :
    (s.writesReported ws).1.channel = s.channel := by rw [State.writesReported_eq]
@[simp] theorem State.writesReported_due (s : State) (ws : List (Physical × Word)) :
    (s.writesReported ws).1.due = s.due := by rw [State.writesReported_eq]
@[simp] theorem State.writesReported_draws (s : State) (ws : List (Physical × Word)) :
    (s.writesReported ws).1.draws = s.draws := by rw [State.writesReported_eq]
@[simp] theorem State.writesReported_pending (s : State) (ws : List (Physical × Word)) :
    (s.writesReported ws).1.pending = s.pending := by rw [State.writesReported_eq]

/-! ## The ends of a processor unit -/

/-- The report of a store cycle touches the channel alone (R192). -/
theorem State.reportStoreCycle_eq (s : State) (a : Listed) (r : Bool) :
    s.reportStoreCycle a r = { s with channel := (s.reportStoreCycle a r).channel } := by
  unfold State.reportStoreCycle
  split <;> rfl

@[simp] theorem State.reportStoreCycle_straps (s : State) (a : Listed) (r : Bool) :
    (s.reportStoreCycle a r).straps = s.straps := by rw [State.reportStoreCycle_eq]
@[simp] theorem State.reportStoreCycle_port (s : State) (a : Listed) (r : Bool) :
    (s.reportStoreCycle a r).port = s.port := by rw [State.reportStoreCycle_eq]
@[simp] theorem State.reportStoreCycle_arbiter (s : State) (a : Listed) (r : Bool) :
    (s.reportStoreCycle a r).arbiter = s.arbiter := by rw [State.reportStoreCycle_eq]
@[simp] theorem State.reportStoreCycle_store (s : State) (a : Listed) (r : Bool) :
    (s.reportStoreCycle a r).store = s.store := by rw [State.reportStoreCycle_eq]
@[simp] theorem State.reportStoreCycle_trunks (s : State) (a : Listed) (r : Bool) :
    (s.reportStoreCycle a r).trunks = s.trunks := by rw [State.reportStoreCycle_eq]
@[simp] theorem State.reportStoreCycle_fibreTable (s : State) (a : Listed) (r : Bool) :
    (s.reportStoreCycle a r).fibreTable = s.fibreTable := by rw [State.reportStoreCycle_eq]
@[simp] theorem State.reportStoreCycle_armedList (s : State) (a : Listed) (r : Bool) :
    (s.reportStoreCycle a r).armedList = s.armedList := by rw [State.reportStoreCycle_eq]
@[simp] theorem State.reportStoreCycle_image (s : State) (a : Listed) (r : Bool) :
    (s.reportStoreCycle a r).image = s.image := by rw [State.reportStoreCycle_eq]
@[simp] theorem State.reportStoreCycle_links (s : State) (a : Listed) (r : Bool) :
    (s.reportStoreCycle a r).links = s.links := by rw [State.reportStoreCycle_eq]
@[simp] theorem State.reportStoreCycle_sweeps (s : State) (a : Listed) (r : Bool) :
    (s.reportStoreCycle a r).sweeps = s.sweeps := by rw [State.reportStoreCycle_eq]
@[simp] theorem State.reportStoreCycle_timing (s : State) (a : Listed) (r : Bool) :
    (s.reportStoreCycle a r).timing = s.timing := by rw [State.reportStoreCycle_eq]
@[simp] theorem State.reportStoreCycle_link (s : State) (a : Listed) (r : Bool) :
    (s.reportStoreCycle a r).link = s.link := by rw [State.reportStoreCycle_eq]
@[simp] theorem State.reportStoreCycle_faults (s : State) (a : Listed) (r : Bool) :
    (s.reportStoreCycle a r).faults = s.faults := by rw [State.reportStoreCycle_eq]
@[simp] theorem State.reportStoreCycle_due (s : State) (a : Listed) (r : Bool) :
    (s.reportStoreCycle a r).due = s.due := by rw [State.reportStoreCycle_eq]
@[simp] theorem State.reportStoreCycle_draws (s : State) (a : Listed) (r : Bool) :
    (s.reportStoreCycle a r).draws = s.draws := by rw [State.reportStoreCycle_eq]
@[simp] theorem State.reportStoreCycle_pending (s : State) (a : Listed) (r : Bool) :
    (s.reportStoreCycle a r).pending = s.pending := by rw [State.reportStoreCycle_eq]

end Sys2Proof.Machine
end

