-- ==== Sys2Proof/Laws/Moves.lean ====
section
/-! SUPPORT. What a step can do to the tables of the part, said once: every row is a chain of the moves below, each
with the condition under which the part makes it. An invariant of the tables that every move keeps is kept by every
row. -/

namespace Sys2Proof.Machine

/-- `t` has the tables of `s`: what the invariants read. Cursors, counts of units, links, timers, the receiver, the
channel, what is due and what is free may differ. -/
structure State.SameTables (s t : State) : Prop where
  straps     : t.straps = s.straps
  pending    : t.pending = s.pending
  store      : t.store = s.store
  trunks     : t.trunks = s.trunks
  fibreTable : t.fibreTable = s.fibreTable
  armedList  : t.armedList = s.armedList
  image      : t.image = s.image
  sweeps     : t.sweeps.map (fun sw => (sw.kind, sw.trunk)) = s.sweeps.map (fun sw => (sw.kind, sw.trunk))
  views      : ∀ p, (t.view p).map PeerView.circuit = (s.view p).map PeerView.circuit
  sources    : t.faults.sources = s.faults.sources
  arbiter    : t.arbiter = s.arbiter
  cycle      : t.port.cycle = s.port.cycle

/-- `b` is `a` but for the fibre-alarm flag. -/
def Binding.like (a b : Binding) : Prop :=
  b.fibre = a.fibre ∧ b.circuit = a.circuit ∧ b.map = a.map ∧ b.digest = a.digest ∧ b.prepared = a.prepared

/-- A change of a record that keeps its phase and its binding: commit only in ROLLED, PINNED only in MIGRATED. -/
structure TrunkRecord.Alike (a b : TrunkRecord) : Prop where
  phase     : b.phase = a.phase
  binding   : (a.binding = none ∧ b.binding = none) ∨
                ∃ x y, a.binding = some x ∧ b.binding = some y ∧ x.like y
  commit    : b.commit = true → a.commit = true ∨ a.phase = .rolled
  lock      : b.lock = .pinned → a.lock = .pinned ∨ a.phase = .migrated
  lingering : b.lingering = a.lingering

/-- A change of phase keeps these items. -/
structure TrunkRecord.Keeps (a b : TrunkRecord) : Prop where
  binding   : b.binding = a.binding
  commit    : b.commit = a.commit
  lock      : b.lock = a.lock
  lingering : b.lingering = a.lingering

/-- One move. `strict` adds the conditions that hold only where the load leaves the table alone (`State.loadSound`);
`load` allows the installing of an image slot. -/
inductive Move (strict load : Prop) : State → State → Prop where
  | same {s t : State} (h : s.SameTables t) : Move strict load s t
  | cycle (s : State) (c : Option HeldCycle)
      (h : s.image.state = .loading → ∀ x, c = some x → x.cls = none) :
      Move strict load s { s with port := { s.port with cycle := c } }
  | arbiter (s : State) (a : Arbiter) (hn : a.allowance ≤ 8 ∨ a.allowance = s.arbiter.allowance)
      (hl : strict → s.image.state = .loading → s.arbiter.inProgress = none → s.arbiter.waiting = none →
        s.sweeps = [] → a.inProgress = none ∧ a.waiting = none) :
      Move strict load s { s with arbiter := a }
  | write (s : State) (x : Physical) (w : Word) : Move strict load s (s.writeWord x w)
  | occurrence (s : State) (src : FaultSource) (t : Option Port) : Move strict load s (s.recordOccurrence src t)
  | source (s : State) (src : FaultSource) (f : SourceState)
      (hc : f.count = (s.source src).count ∨ f.count = 0)
      (hf : src = .fallbackBlocked → f.cls = .fallback → (s.source src).cls = .fallback) :
      Move strict load s (s.setSource src f)
  | image (s : State) (i : BindingImage) (h : i.state = .loading → s.image.state = .loading) :
      Move strict load s { s with image := i }
  | record (s : State) (p : Port) (r : TrunkRecord) (h : (s.trunk p).Alike r) :
      Move strict load s (s.setTrunk p r)
  | bind (s : State) (p : Port) (b : Binding) (hp : s.phase p = .free) (ht : s.boundTo b.fibre = none)
      (hc : s.circuitHeld b.circuit = false) (hm : validMap b.map = true) (hd : b.digest = mapDigest b.map)
      (hb : b.prepared = false) (hs : strict → s.image.state ≠ .loading) :
      Move strict load s
        (((s.setTrunk p ((s.trunk p).madeBound b)).setBoundTo b.fibre (some p)).queueSweep .prepare p)
  | free (s : State) (p : Port) (hp : s.phase p = .bound) : Move strict load s (s.freeRecord p)
  | start (s : State) (p : Port) (hp : (s.trunk p).preparedBound = true) (hn : s.announcedCount < 8) :
      Move strict load s (s.startRecord p)
  | census (s : State) (p : Port) (hp : s.phase p = .tracked ∨ s.phase p = .bridged)
      (hs : s.hasSweep p = false) : Move strict load s (s.queueSweep .census p)
  | bridge (s : State) (p : Port) (r : TrunkRecord) (hp : s.phase p = .tracked) (hs : s.hasSweep p = false)
      (hr : r.phase = .bridging) (hk : (s.trunk p).Keeps r) :
      Move strict load s ((s.setTrunk p r).queueSweep .bridge p)
  | arm (s : State) (p : Port) (r : TrunkRecord) (hp : s.phase p = .bridged) (hs : s.hasSweep p = false)
      (hr : r.phase = .armed) (hk : (s.trunk p).Keeps r) :
      Move strict load s { s.setTrunk p r with armedList := s.armedList ++ [p] }
  | disarm (s : State) (p : Port) (r : TrunkRecord) (hp : s.phase p = .armed) (hr : r.phase = .bridged)
      (hk : (s.trunk p).Keeps r) : Move strict load s ((s.setTrunk p r).leaveArmedList p)
  | roll (s : State) (p : Port) (r : TrunkRecord) (hp : s.phase p = .armed) (hr : r.phase = .rolling)
      (hk : (s.trunk p).Keeps r) :
      Move strict load s (((s.setTrunk p r).leaveArmedList p).queueSweep .roll p)
  | release (s : State) (p : Port) (r : TrunkRecord) (hp : s.phase p = .rolled) (hr : r.phase = .releasing)
      (hk : (s.trunk p).Keeps r) : Move strict load s ((s.setTrunk p r).queueSweep .release p)
  | unrollRolling (s : State) (p : Port) (r : TrunkRecord) (hp : s.phase p = .rolling)
      (hr : r.phase = .unrolling) (hk : (s.trunk p).Keeps r) :
      Move strict load s ((s.setTrunk p r).replaceRoll p)
  | unrollRolled (s : State) (p : Port) (r : TrunkRecord) (hp : s.phase p = .rolled)
      (hc : (s.trunk p).commit = false) (hr : r.phase = .unrolling) (hk : (s.trunk p).Keeps r) :
      Move strict load s ((s.setTrunk p r).queueSweep .unroll p)
  | unbridge (s : State) (p : Port) (r : TrunkRecord)
      (hp : s.phase p = .bridging ∨ s.phase p = .bridged ∨ s.phase p = .armed) (hs : s.hasSweep p = false)
      (hr : r.phase = .unbridging) (hk : (s.trunk p).Keeps r) :
      Move strict load s (((s.setTrunk p r).leaveArmedList p).queueSweep .unbridge p)
  | unrolledToUnbridge (s : State) (p : Port) (r : TrunkRecord) (hp : s.phase p = .unrolling)
      (hs : s.hasSweep p = false) (hr : r.phase = .unbridging) (hk : (s.trunk p).Keeps r) :
      Move strict load s ((s.setTrunk p r).queueSweep .unbridge p)
  | dropSweep (s : State) (p : Port) : Move strict load s (s.removeSweep p)
  | prepared (s : State) (p : Port) (hs : s.hasSweep p = false) :
      Move strict load s (s.setTrunk p
        { s.trunk p with binding := (s.trunk p).binding.map (fun b => { b with prepared := true }) })
  | onward (s : State) (p : Port) (r : TrunkRecord) (hs : s.hasSweep p = false)
      (hp : (s.phase p = .census ∧ r.phase = .tracked) ∨ (s.phase p = .bridging ∧ r.phase = .bridged) ∨
        (s.phase p = .unrolling ∧ r.phase = .bridged))
      (hk : (s.trunk p).Keeps r) : Move strict load s (s.setTrunk p r)
  | rolled (s : State) (p : Port) (r : TrunkRecord) (hs : s.hasSweep p = false) (hp : s.phase p = .rolling)
      (hr : r.phase = .rolled) (hc : r.commit = false) (hb : r.binding = (s.trunk p).binding)
      (hl : r.lock = (s.trunk p).lock) : Move strict load s (s.setTrunk p r)
  | migrated (s : State) (p : Port) (r : TrunkRecord) (hs : s.hasSweep p = false) (hp : s.phase p = .releasing)
      (hr : r.phase = .migrated) (hg : r.lingering = true) (hb : r.binding = (s.trunk p).binding)
      (hc : r.commit = (s.trunk p).commit) (hl : r.lock = (s.trunk p).lock) :
      Move strict load s (s.setTrunk p r)
  | bound (s : State) (p : Port) (r : TrunkRecord) (hs : s.hasSweep p = false)
      (hp : s.phase p = .census ∨ s.phase p = .tracked ∨ s.phase p = .unbridging) (hr : r.phase = .bound)
      (hk : (s.trunk p).Keeps r) : Move strict load s ((s.setTrunk p r).setView p none)
  | unlinger (s : State) (p : Port) (hp : s.phase p = .migrated) :
      Move strict load s ((s.setTrunk p { s.trunk p with lingering := false }).setView p none)
  | install (s : State) (p : Port) (c : SlotRecord) (F : FibrePort) (m : ChannelMap) (hl : load)
      (hi : s.installable p c = some (F, m)) (hf : strict → s.phase p = .free) :
      Move strict load s ((s.setTrunk p (installedRecord c F m)).setBoundTo F (some p))

/-- A chain of moves. -/
inductive Moves (strict load : Prop) : State → State → Prop where
  | refl (s : State) : Moves strict load s s
  | tail {s t u : State} (h : Moves strict load s t) (m : Move strict load t u) : Moves strict load s u

namespace Moves

variable {strict load : Prop} {s t u : State}

theorem one (m : Move strict load s t) : Moves strict load s t := .tail (.refl s) m

theorem trans (h : Moves strict load s t) (k : Moves strict load t u) : Moves strict load s u := by
  induction k with
  | refl => exact h
  | tail _ m ih => exact ih.tail m

/-- A property that every move keeps is kept by a chain. -/
theorem keeps {P : State → Prop} (hP : ∀ a b, Move strict load a b → P a → P b) (h : Moves strict load s t)
    (hs : P s) : P t := by
  induction h with
  | refl => exact hs
  | tail _ m ih => exact hP _ _ m ih

theorem same (h : s.SameTables t) : Moves strict load s t := .one (.same h)

/-- A fold of operations that are chains of moves is one. -/
theorem foldl {α : Type} (f : State → α → State) (h : ∀ s a, Moves strict load s (f s a)) (l : List α)
    (s : State) : Moves strict load s (l.foldl f s) := by
  induction l generalizing s with
  | nil => exact .refl s
  | cons a rest ih => exact (h s a).trans (ih _)

end Moves

/-! ## Chains that keep the conditions of the load -/

/-- Moves never begin a load. -/
theorem Moves.notLoading {strict load : Prop} {s t : State} (h : Moves strict load s t)
    (hs : s.image.state ≠ .loading) : t.image.state ≠ .loading := by
  refine h.keeps (P := fun s => s.image.state ≠ .loading) ?_ hs
  intro a b m ha
  cases m with
  | same h => rw [h.image]; exact ha
  | image i h => exact fun e => ha (h e)
  | occurrence src t => rw [State.recordOccurrence_image]; exact ha
  | free p hp =>
    unfold State.freeRecord; split <;> exact ha
  | start p hp hn =>
    unfold State.startRecord State.joinAnnounced; split <;> exact ha
  | _ => exact ha

/-- Without an installing, moves keep the conditions of the load. -/
theorem Moves.loadSound {s t : State} (h : Moves True False s t) (hs : s.loadSound) : t.loadSound := by
  refine h.keeps (P := State.loadSound) ?_ hs
  intro a b m ha hb
  have away : ∀ p, a.image.state = .loading → a.phase p ≠ .free → False :=
    fun p hl hp => hp ((ha hl).1 p)
  have tracked : ∀ p, a.image.state = .loading → ∀ ph, a.phase p = ph → ph ≠ .free → False :=
    fun p hl ph hp hn => away p hl (hp ▸ hn)
  cases m with
  | same h =>
    obtain ⟨h1, h2, h3, h4, h5⟩ := ha (h.image ▸ hb)
    refine ⟨fun p => ?_, ?_, by rw [h.arbiter]; exact h3, by rw [h.arbiter]; exact h4,
      by rw [h.cycle]; exact h5⟩
    · rw [State.phase, State.trunk_congr h.trunks]; exact h1 p
    · have := h.sweeps; rw [h2] at this; simpa using this
  | cycle c h => obtain ⟨h1, h2, h3, h4, h5⟩ := ha hb; exact ⟨h1, h2, h3, h4, h hb⟩
  | arbiter x hn hl =>
    obtain ⟨h1, h2, h3, h4, h5⟩ := ha hb
    obtain ⟨k1, k2⟩ := hl trivial hb h3 h4 h2
    exact ⟨h1, h2, k1, k2, h5⟩
  | write x w => exact ha hb
  | occurrence src t =>
    rw [State.recordOccurrence_image] at hb
    obtain ⟨h1, h2, h3, h4, h5⟩ := ha hb
    refine ⟨fun p => ?_, by rw [State.recordOccurrence_sweeps]; exact h2, ?_, ?_, ?_⟩
    · rw [State.phase, State.trunk_congr (State.recordOccurrence_trunks a src t)]; exact h1 p
    · rw [State.recordOccurrence_arbiter]; exact h3
    · rw [State.recordOccurrence_arbiter]; exact h4
    · rw [State.recordOccurrence_port]; exact h5
  | source src f hc hf => exact ha hb
  | image i h => exact ha (h hb)
  | record p r h =>
    obtain ⟨h1, h2, h3, h4, h5⟩ := ha hb
    refine ⟨fun q => ?_, h2, h3, h4, h5⟩
    rw [State.phase, State.trunk_setTrunk]
    split
    · rw [h.phase]; exact h1 p
    · exact h1 q
  | bind p b hp ht hc hm hd hp' hs => exact absurd hb (hs trivial)
  | free p hp =>
    have hl : a.image.state = .loading := by
      unfold State.freeRecord at hb; split at hb <;> exact hb
    exact (tracked p hl _ hp (by decide)).elim
  | start p hp hn =>
    have hl : a.image.state = .loading := by
      unfold State.startRecord State.joinAnnounced at hb; split at hb <;> exact hb
    have : a.phase p = .bound := by
      simp only [TrunkRecord.preparedBound, Bool.and_eq_true, decide_eq_true_eq] at hp; exact hp.1
    exact (tracked p hl _ this (by decide)).elim
  | census p hp hs => exact (hp.elim (fun h => tracked p hb _ h (by decide)) fun h => tracked p hb _ h (by decide)).elim
  | bridge p r hp hs hr hk => exact (tracked p hb _ hp (by decide)).elim
  | arm p r hp hs hr hk => exact (tracked p hb _ hp (by decide)).elim
  | disarm p r hp hr hk => exact (tracked p hb _ hp (by decide)).elim
  | roll p r hp hr hk => exact (tracked p hb _ hp (by decide)).elim
  | release p r hp hr hk => exact (tracked p hb _ hp (by decide)).elim
  | unrollRolling p r hp hr hk => exact (tracked p hb _ hp (by decide)).elim
  | unrollRolled p r hp hc hr hk => exact (tracked p hb _ hp (by decide)).elim
  | unbridge p r hp hs hr hk =>
    rcases hp with h | h | h <;> exact (tracked p hb _ h (by decide)).elim
  | unrolledToUnbridge p r hp hs hr hk => exact (tracked p hb _ hp (by decide)).elim
  | dropSweep p =>
    obtain ⟨h1, h2, h3, h4, h5⟩ := ha hb
    exact ⟨h1, by simp [State.removeSweep, h2], h3, h4, h5⟩
  | prepared p hs =>
    obtain ⟨h1, h2, h3, h4, h5⟩ := ha hb
    refine ⟨fun q => ?_, h2, h3, h4, h5⟩
    rw [State.phase, State.trunk_setTrunk]
    split
    · exact h1 p
    · exact h1 q
  | onward p r hs hp hk =>
    rcases hp with ⟨h, _⟩ | ⟨h, _⟩ | ⟨h, _⟩ <;> exact (tracked p hb _ h (by decide)).elim
  | rolled p r hs hp hr hc hb' hl => exact (tracked p hb _ hp (by decide)).elim
  | migrated p r hs hp hr hg hb' hc hl => exact (tracked p hb _ hp (by decide)).elim
  | bound p r hs hp hr hk =>
    rcases hp with h | h | h <;> exact (tracked p hb _ h (by decide)).elim
  | unlinger p hp => exact (tracked p hb _ hp (by decide)).elim
  | install p c F m hl hi hf => exact hl.elim

end Sys2Proof.Machine
end

