-- ==== Sys2Proof/Tests/Slice0.lean ====
section
/-! SUPPORT. Tests: the ill-formed step, the worked examples of the spec with the values it prints, and for each
statement a state and operands that meet its hypotheses. -/

set_option Elab.async false

namespace Sys2Proof.Tests

open Sys2Proof Sys2Proof.Machine

/-! ## Well-formedness -/

/-- A power-on reset cannot cut a store unit after more accesses than a unit makes. -/
theorem test_wellFormed_refuses_three_accesses :
    Instr.wellFormed (.powerOnReset Config.resetStraps 3) = false := by decide

theorem test_wellFormed_takes_two_accesses :
    Instr.wellFormed (.powerOnReset Config.resetStraps 2) = true := by decide

/-! ## Small states -/

/-- The state that a step leaves. -/
def after (c : Instr) (s : State) : State :=
  match exec c s with
  | .next t => t
  | _ => s

/-- The part after a power-on load of an empty image. -/
def ready : State := { State.reset with image := { state := .ready, slots := Vector.replicate 64 .blank } }

/-- The map that exchanges slots 3 and 5 (section 1.8). -/
def map35 : ChannelMap := (identityMap.set 3 5).set 5 3

/-- The binding of the spec's record 12: fibre port 77, circuit 10775. -/
def binding12 : Binding where
  fibre      := 13
  circuit    := 10775
  map        := map35
  digest     := 11436
  prepared   := true
  fibreAlarm := false

/-- Record 12 of the spec's examples in a phase. -/
def record12 (ph : Phase) : TrunkRecord := { TrunkRecord.freeRecord with phase := ph, binding := some binding12 }

/-- The state with a record at port 12 and fibre port 77 bound to it. -/
def with12 (s : State) (r : TrunkRecord) : State := (s.setTrunk 12 r).setBoundTo 13 (some 12)

/-- The part with record 12 in a phase. -/
def at12 (ph : Phase) : State := with12 ready (record12 ph)

/-- The state with the channel OPEN and a window write taken as a channel cycle. -/
def commanded (s : State) (w : Word) : State :=
  { s with port := { s.port with cycle := some { cycle := .write 2016 w, cls := some .channel } },
           channel := { s.channel with state := .opened } }

/-- The state with all parameters but the last collected, and a window write of the last taken. -/
def completing (s : State) (command : Word) (taken : List Word) (required : Nat) (w : Word) : State :=
  { s with port := { s.port with cycle := some { cycle := .write 2016 w, cls := some .channel } },
           channel := { s.channel with state := .collecting command taken required } }

/-- The state with a window read taken as a channel cycle. -/
def reading (s : State) (c : ChannelState) : State :=
  { s with port := { s.port with cycle := some { cycle := .read 2016, cls := some .channel } },
           channel := { s.channel with state := c } }

/-- The state with a processor unit granted. -/
def granted (s : State) (u : ProcessorUnit) : State :=
  { s with arbiter := { inProgress := some (.processor u), waiting := none, allowance := 0 } }

/-- The state with one sweep and its unit in progress. -/
def sweeping (s : State) (sw : Sweep) : State :=
  { s with sweeps := [sw],
           arbiter := { inProgress := some (.sweep sw.kind sw.trunk), waiting := none, allowance := 0 } }

/-- A sweep of trunk 12 at a cursor. -/
def sweep12 (kind : SweepKind) (c : Cursor) : Sweep := { newSweep kind 12 with cursor := c }

/-- The state with an event due. -/
def dueNow (s : State) (d : Due) : State := { s with due := [d] }

/-! ## Chapter 1: words, maps and translation -/

/-- Section 1.2, the parity examples. -/
theorem test_parity_content :
    (physicalWord .connect 647).getLsbD 15 = false ∧ (physicalWord .connect 2469).getLsbD 15 = true ∧
      (physicalWord .connect 2467).getLsbD 15 = true ∧ idleWord = 0 := by decide +kernel

/-- Section 1.4, the digest cases. -/
theorem test_digest_cases :
    mapDigest identityMap = 11440 ∧ mapDigest map35 = 11436 ∧
      mapDigest ((map35.set 20 21).set 21 20) = 11435 ∧
      mapDigest ((identityMap.set 3 4).set 4 3) = 11439 := by decide +kernel

/-- Section 1.4: the map that reverses the slots other than 0 and 16 has the smallest digest. -/
theorem test_digest_smallest :
    mapDigest #v[0, 31, 30, 29, 28, 27, 26, 25, 24, 23, 22, 21, 20, 19, 18, 17,
      16, 15, 14, 13, 12, 11, 10, 9, 8, 7, 6, 5, 4, 3, 2, 1] = 6480 := by decide +kernel

/-- Section 1.8, step 1: BRIDGED, listed 387 written with CONNECT from 647. -/
theorem test_write_bridged :
    (at12 .bridged).landingSet 387 = [387, 2469] ∧
      (at12 .bridged).translateWrite (listedWord .connect 647) = physicalWord .connect 647 := by decide +kernel

/-- Section 1.8, steps 2 to 4: ROLLING, listed 969 written with CONNECT from 389 and read back; in SPLIT the copper
word is read. -/
theorem test_write_and_read_rolling :
    (at12 .rolling).translateWrite (listedWord .connect 389) = physicalWord .connect 2467 ∧
      (at12 .rolling).landingSet 969 = [969] ∧
      (at12 .rolling).translateRead (physicalWord .connect 2467) = listedWord .connect 389 ∧
      (at12 .rolling).readAddress 387 = 387 := by decide +kernel

/-- Section 1.8, step 5: MIGRATED, listed 387 written with TONE 25, its spare bits set. -/
theorem test_write_migrated :
    (at12 .migrated).landingSet 387 = [2469] ∧ (at12 .migrated).readAddress 387 = 2469 ∧
      (at12 .migrated).translateWrite (listedWord .tone 25 ||| 0xE000) = physicalWord .tone 25 ∧
      (physicalWord .tone 25).getLsbD 15 = false := by decide +kernel

/-- Section 1.8, step 6: with fibre port 77 unbound the listener reads as 2047 and is stray. -/
theorem test_read_unbound :
    ready.translateRead (physicalWord .connect 2467) = listedWord .connect 2047 ∧
      ready.readIsStray (physicalWord .connect 2467) = true := by decide +kernel

/-! ## Chapter 2: the power-on load of section 2.9 -/

/-- A slot record of section 2.9. -/
def slotOf29 (p : Port) (F circuit : Nat) (m : ChannelMap) (gs : List (Fin 7)) : ImageSlot :=
  .good { copper := p, fibre := BitVec.ofNat 8 F, circuit := BitVec.ofNat 16 circuit,
          map := m.map (fun j => BitVec.ofNat 8 j.val), groups := gs }

/-- The image of section 2.9. -/
def image29 : BindingImage where
  state := .loading
  slots := (((((Vector.replicate 64 .blank).set 5 (slotOf29 5 70 200 identityMap [1])).set 12
    (slotOf29 12 77 10775 map35 [1, 2])).set 20 (slotOf29 20 70 310 identityMap [])).set 31 .failing).set 40
      (slotOf29 40 90 200 identityMap [])

/-- The part after the load of section 2.9. -/
def loaded29 : State := after .imageLoad { State.reset with image := image29 }

theorem test_load_installs_5_and_12 :
    (allPorts.filter loaded29.isBound) = [5, 12] ∧ loaded29.phase 12 = .migrated ∧
      (loaded29.trunk 12).lock = .pinned ∧ (loaded29.trunk 12).binding.map Binding.digest = some 11436 ∧
      loaded29.boundTo 6 = some 5 := by decide +kernel

theorem test_load_counts_image_record :
    (loaded29.source .imageRecord).count = 3 ∧ (loaded29.source .imageRecord).lastTrunk = some 40 ∧
      loaded29.faults.first = some { source := .imageRecord, trunk := some 20, multiframe := 0 } ∧
      loaded29.alertLine = true ∧ loaded29.translateRead (physicalWord .connect 2467) = listedWord .connect 389 := by
  decide +kernel

/-! ## Chapter 3: the arbiter and parity -/

/-- Section 3.10: after eight class A units the waiting processor unit is granted. -/
theorem test_allowance_of_eight :
    ({ inProgress := none, waiting := some (.read 5), allowance := 7 } : Arbiter).decide (some (newSweep .roll 12)) =
        { inProgress := some (.sweep .roll 12), waiting := some (.read 5), allowance := 8 } ∧
      ({ inProgress := none, waiting := some (.read 5), allowance := 8 } : Arbiter).decide
        (some (newSweep .roll 12)) =
        { inProgress := some (.processor (.read 5)), waiting := none, allowance := 0 } := by decide +kernel

/-- Section 3.10: physical 969 read with bit 1 of its source lost returns CONNECT from 385 and raises STORE_PARITY with no
trunk. -/
def failedRead : State :=
  after .processorRead
    (granted { at12 .rolling with store := [(969, physicalWord .connect 2467 &&& 0xFFFD)] } (.read 969))

theorem test_parity_failed_read :
    failedRead.port.readData = listedWord .connect 385 ∧ (failedRead.source .storeParity).count = 1 ∧
      (failedRead.source .storeParity).lastTrunk = none := by decide +kernel

/-! ## Chapters 4 and 5: the index and the roll -/

/-- Section 5.10 at the unit for 700: the cursor stands at 969 and its list goes on with 387 and 2469. -/
def walking : State :=
  { at12 .rolling with
    store := [(387, physicalWord .connect 389), (700, physicalWord .monitor 389), (969, physicalWord .connect 389)],
    links := [700, 969, 387].map (fun x => { talker := { port := 12, slot := 5 }, listener := x }),
    sweeps := [sweep12 .roll (.index (some (5, 969)))],
    arbiter := { inProgress := some (.processor (.write 969 (listedWord .connect 647))), waiting := none,
                 allowance := 0 } }

/-- Section 5.10: the processor write P at 969 removes the link there, and the cursor takes its successor, 387. -/
theorem test_cursor_follows_removal :
    (after .processorWrite walking).links.map Link.listener = [700, 387] ∧
      (after .processorWrite walking).sweeps.map Sweep.cursor = [.index (some (5, 387))] := by decide +kernel

/-- Section 5.10: the unit for 700 writes MONITOR from 2467, and the cursor goes on to 969. -/
def rolling700 : State :=
  after .rollUnit
    (sweeping { walking with arbiter := initialArbiter } (sweep12 .roll (.index (some (5, 700)))))

theorem test_roll_unit_rewrites :
    rolling700.readWord 700 = physicalWord .monitor 2467 ∧
      rolling700.sweeps.map Sweep.cursor = [.index (some (5, 969))] ∧
      rolling700.links.length = 3 := by decide +kernel

/-- Section 5.6: the list order of a roll is slot 16, then 0 to 15, then 17 to 31. -/
theorem test_roll_order :
    rollOrder.map Fin.val = [16] ++ List.range 16 ++ (List.range 15).map (· + 17) := by decide +kernel

/-- Section 5.11: a scan set over three fibre ports holds 2144 words, the last at the last slot of port 90. -/
theorem test_scan_set :
    scanSize [6, 13, 26] = 2144 ∧ scanAddress [6, 13, 26] 2143 = 90 * 32 + 31 ∧ scanAddress [6, 13, 26] 2048 = 2240 := by
  decide +kernel

/-! ## Chapter 6: timing -/

/-- Section 6.4, the late MFS with trim +2: pulse 16 misses, pulse 37 realigns f to 14. -/
def locked2 (f : BitVec 4) (n : Nat) (y : SyncState) : State :=
  { ready with timing := { ready.timing with sync := y, trim := 2, frame := f, interval := n, multiframe := 103 } }

theorem test_pulse_16_misses :
    (after (.fsPulse false) (locked2 13 15 .locked)).timing.frame = 14 ∧
      (after (.fsPulse false) (locked2 13 15 .locked)).due = [.mfsMiss] := by decide +kernel

theorem test_pulse_37_realigns :
    (after (.fsPulse true) (locked2 2 36 .flywheel)).timing.frame = 14 ∧
      (after (.fsPulse true) (locked2 2 36 .flywheel)).timing.sync = .locked ∧
      ((after (.fsPulse true) (locked2 2 36 .flywheel)).source .syncRealign).count = 1 ∧
      (after (.fsPulse true) (locked2 2 36 .flywheel)).due = [] := by decide +kernel

/-- Section 6.5, the epoch across the wrap. -/
theorem test_epoch_wrap :
    epochReached 3 4 = false ∧ epochReached 4 4 = true ∧ lateness 6 4 = 2 ∧ epochReached 32771 4 = true ∧
      epochReached 32772 4 = false ∧ epochReached 65530 4 = false := by decide +kernel

/-- Section 6.6: the default soak is 59,904 multiframes; with S 0 and E 20 SET_TIMING clamps it to 32,768. -/
theorem test_soak :
    ready.timing.soakInForce = 59904 ∧
      (setTiming [0, 0x1400, 25, 6] ready).1.timing.soakInForce = 32768 ∧
      (setTiming [0, 0x1400, 25, 6] ready).2.1 = .clamped := by decide +kernel

/-! ## Chapter 9: the peer link -/

/-- Section 9.11, the beacon of three records: its length and its check byte 5Dh. -/
def beacon911 : List Byte :=
  frameBytes beaconKind (beaconPayload 3 9
    [{ circuit := 10775, phase := .rolled, commit := true, alarm := false, digest := 11436 },
     { circuit := 310, phase := .bridged, commit := false, alarm := false, digest := 11440 },
     { circuit := 4660, phase := .armed, commit := false, alarm := false, digest := 11439 }])

theorem test_beacon_bytes :
    beacon911.length = 25 ∧ beacon911.getLast? = some 0x5D ∧
      beacon911.take 12 = [0xD3, 0x21, 0x15, 3, 9, 3, 0x2A, 0x17, 7, 1, 0x2C, 0xAC] := by decide +kernel

/-- Section 9.11, the frame hidden behind a noise byte: the ALARM frame that names fibre port 77. -/
def hiddenFrame : List Byte := 0xD3 :: frameBytes alarmKind [0, 0x20, 0, 0, 0, 0, 0, 0]

/-- The part as the third boundary finds it. -/
def hidden : State :=
  { at12 .rolling with
    link := { ready.link with receiver := .payload, held := hiddenFrame, gap := 3 }, due := [.gapExpiry] }

theorem test_hidden_frame_is_recovered :
    (hiddenFrame.foldl (fun l b => (l.takeByte false b).1) ready.link).held = hiddenFrame ∧
      (after .gapExpiry hidden).due = [.alarmFrame [0, 0x20, 0, 0, 0, 0, 0, 0]] ∧
      ((after .gapExpiry hidden).source .linkFrame).count = 1 := by decide +kernel

theorem test_hidden_alarm_falls_back :
    (after .alarmFrame (after .gapExpiry hidden)).link.alarmSet.getLsbD 13 = true ∧
      (after .alarmFrame (after .gapExpiry hidden)).phase 12 = .unrolling ∧
      ((after .alarmFrame (after .gapExpiry hidden)).source .fibreAlarm).lastTrunk = some 12 := by decide +kernel

/-- Section 9.11, the last row: the first beacon after a silence does not list 10775, and the ARMED record withdraws to
BRIDGED. -/
def withdrawn : State :=
  after .beaconFrame
    (dueNow
      { (at12 .armed).setView 12
          (some { newView 10775 with phase := .listed .armed, digest := some 11436 }) with
        armedList := [12] }
      (.beaconFrame [9, 3, 0]))

theorem test_withdrawal_disarms :
    withdrawn.phase 12 = .bridged ∧ withdrawn.armedList = [] ∧ withdrawn.link.learnedPeer = some 9 ∧
      withdrawn.timing.silenceCountdown = 150 ∧ (withdrawn.view 12).map PeerView.phase = some .absent ∧
      (withdrawn.source .peerWithdraw).lastTrunk = some 12 := by decide +kernel

/-! ## Chapter 10: the worked sequence -/

/-- Section 10.8: a record that has committed is not taken back. -/
theorem test_committed_is_blocked :
    ((with12 ready { record12 .rolled with commit := true }).applyFallback 12).phase 12 = .rolled ∧
      (((with12 ready { record12 .rolled with commit := true }).applyFallback 12).source
        .fallbackBlocked).lastTrunk = some 12 := by decide +kernel

/-- Section 10.8: SET_ACTION with FALLBACK for FALLBACK_BLOCKED answers CLAMPED, and the class becomes HOLD. -/
theorem test_set_action_clamps :
    (setAction 0x030C ready).2.1 = .clamped ∧
      ((setAction 0x030C ready).1.source .fallbackBlocked).cls = .hold := by decide +kernel

/-! ## Chapter 11: the worked session -/

/-- Section 11.7: record 5 PINNED and record 12 BRIDGED, both in group 1. -/
def session117 : State :=
  let r5 : TrunkRecord :=
    { TrunkRecord.freeRecord with
      phase := .migrated, lock := .pinned, commit := true, groups := [1],
      binding := some { binding12 with fibre := 6, circuit := 200, map := identityMap, digest := 11440 } }
  { (with12 ready { record12 .bridged with groups := [1] }).setTrunk 5 r5 with
    links := [700, 969].map (fun x => { talker := { port := 12, slot := 5 }, listener := x }) }

theorem test_knock :
    (after .processorRead
        (granted { ready with channel := { initialChannel with state := .closed 3 } } (.read 2016))).channel.state =
        .opened ∧
      (after .processorRead
        (granted { ready with channel := { initialChannel with state := .closed 2 } } (.read 900))).channel.state =
        .closed 0 ∧
      (after .channelRead (reading ready .opened)).port.readData = 0x5A00 := by decide +kernel

/-- Section 11.7: the group ROLL with lead 20000. -/
def rolled117 : State := after .roll (completing session117 0x2281 [] 1 0x4E20)

theorem test_group_roll :
    rolled117.channel.state = .answering [0x0F02, 0x0405, 0x020C] 0 ∧ rolled117.statusWord = 0x5A0F ∧
      (rolled117.trunk 12).rollRequest = some 16384 := by decide +kernel

theorem test_abandon :
    (after .channelRead (reading session117 (.collecting 0x50FF [0] 4))).port.readData = 0x5A0E ∧
      ((after .channelRead (reading session117 (.collecting 0x50FF [0] 4))).source .channelProtocol).count = 1 := by
  decide +kernel

theorem test_query_index :
    (after .queryIndex (completing session117 0x520C [] 1 5)).channel.state =
        .answering [0x0002, 0x02BC, 0x03C9] 0 ∧
      (after .close (commanded session117 0x7FFF)).channel.state = .closed 0 := by decide +kernel

/-! ## Witnesses: the processor port, the resets and the image

Each theorem names a state and operands that meet the hypotheses of the statement of its name, clause by clause. -/

/-- Everything but the power-on reset and the idle step is met by `ready`; the SPLIT write that a reset cuts off. -/
theorem witness_PowerOnResetGivesPowerOnValues :
    (granted (at12 .bridged) (.write 387 0x0A87)).storeSound ∧
      (granted (at12 .bridged) (.write 387 0x0A87)).arbiter.inProgress = some (.processor (.write 387 0x0A87)) ∧
      (granted (at12 .bridged) (.write 387 0x0A87)).landingSet 387 = [387, 2469] := by
  simp only [State.storeSound]; decide +kernel

/-- The part at the BRIDGE unit of slot 3, whose copper word is CONNECT from 647. -/
def bridging3 : State :=
  sweeping { at12 .bridging with store := [(387, physicalWord .connect 647)] } (sweep12 .bridge (.slot 3))

/-- R41: a CLOSE behind a store unit finds the unit's write made, and READY is given with the session closed. -/
theorem test_close_waits_for_the_unit :
    (after .close (commanded bridging3 0x7FFF)).readWord 2469 = physicalWord .connect 647 ∧
      (after .close (commanded bridging3 0x7FFF)).channel = { state := .closed 0, lastResult := .done } ∧
      (after .close (commanded bridging3 0x7FFF)).port.cycle = none := by decide +kernel

/-- The units that a reset cuts off, for the last clause: a BRIDGE unit, and one of each that only reads. -/
theorem witness_PowerOnResetGivesPowerOnValues_cut :
    bridging3.arbiter.inProgress = some (.sweep .bridge 12) ∧
      bridging3.sweepOf 12 = some (sweep12 .bridge (.slot 3)) ∧
      (granted ready (.read 5)).arbiter.inProgress = some (.processor (.read 5)) ∧
      (granted ready (.raw 5)).arbiter.inProgress = some (.processor (.raw 5)) := by decide +kernel

/-- Section 3.9: a BRIDGE unit cut off after its read makes no write; cut off after its write it has made it. -/
theorem test_reset_cuts_a_bridge_unit :
    (after (.powerOnReset Config.resetStraps 1) bridging3).readWord 2469 = idleWord ∧
      (after (.powerOnReset Config.resetStraps 2) bridging3).readWord 2469 = physicalWord .connect 647 := by
  decide +kernel

theorem witness_ProcessorResetReachesTheChannelAlone :
    ready.somethingDue = false ∧ (granted ready (.read 5)).somethingDue = false ∧
      (granted ready (.read 5)).arbiter.inProgress ≠ none := by decide +kernel

/-- The part while slot 12 is programmed. -/
def programming12 : State :=
  { at12 .migrated with
    image := { state := .programming 12 (slotContent 12 (record12 .migrated) binding12),
               slots := Vector.replicate 64 .blank } }

/-- The part while the image is erased. -/
def erasing : State := { ready with image := { state := .erasing, slots := Vector.replicate 64 .failing } }

theorem witness_ImageOperationsComplete :
    programming12.somethingDue = false ∧
      programming12.image.state = .programming 12 (slotContent 12 (record12 .migrated) binding12) ∧
      erasing.somethingDue = false ∧ erasing.image.state = .erasing := by decide +kernel

/-- The part as the load of section 2.9 finds it: slots of every case. -/
def loading29 : State := { State.reset with image := image29 }

theorem witness_ImageLoadInstallsTheGoodSlots :
    loading29.somethingDue = false ∧ loading29.image.state = .loading ∧ loading29.arbiter.inProgress = none ∧
      loading29.arbiter.waiting = none ∧ loading29.sweeps = [] ∧
      (∀ p, loading29.trunk p = TrunkRecord.freeRecord) ∧ (∀ F, loading29.boundTo F = none) := by decide +kernel

/-- A free store with a CENSUS that has not begun, a ROLL that has not begun, and a unit in progress. -/
theorem witness_ArbiterFollowsTheGrantTable :
    (∀ e ∈ [(Phase.census, SweepKind.census), (.rolling, .roll), (.rolling, .unroll), (.bound, .prepare)],
      ({ at12 e.1 with sweeps := [newSweep e.2 12] } : State).arbiter.inProgress = none ∧
        ({ at12 e.1 with sweeps := [newSweep e.2 12] } : State).eventWaits = false) ∧
      ready.sweeps.find? (fun sw => sw.kind = .roll || sw.kind = .unroll || !ready.faults.hold) = none ∧
      walking.arbiter.inProgress ≠ none := by decide +kernel

theorem witness_TakenCycleIsClassedOnce :
    (ready.somethingDue = false ∧ ready.port.cycle = none ∧ ready.image.state ≠ .loading ∧
      ready.arbiter = { inProgress := none, waiting := none, allowance := ready.arbiter.allowance } ∧
      ready.sweeps = [] ∧ ready.channelClosed = true) ∧
    (State.reset.somethingDue = false ∧ State.reset.port.cycle = none ∧ State.reset.image.state = .loading) ∧
    (sweeping (at12 .bridging) (sweep12 .bridge (.slot 3))).somethingDue = false ∧
    (sweeping (at12 .bridging) (sweep12 .bridge (.slot 3))).port.cycle = none ∧
    (sweeping (at12 .bridging) (sweep12 .bridge (.slot 3))).arbiter.inProgress ≠ none := by decide +kernel

theorem witness_ProcessorWriteLandsOnItsLandingSet :
    ∀ ph ∈ [Phase.tracked, .rolling, .migrated],
      Memory.wf (granted (at12 ph) (.write 387 0x0A87)).store = true ∧
      (granted (at12 ph) (.write 387 0x0A87)).arbiter.inProgress = some (.processor (.write 387 0x0A87)) ∧
      (at12 ph).links.length + 2 ≤ linkPoolSize := by decide +kernel

/-- A listener written while its talker's port is in ROLLING, and one while it is in BRIDGED. -/
theorem witness_ProcessorWriteLandsOnItsLandingSet_forms :
    let w := listedWord .connect 389
    listedMode w = .connect ∧ portOf (listedSource w) = 12 ∧ slotOf (listedSource w) = 5 ∧
      (at12 .rolling).phase 12 = .rolling ∧ (at12 .bridged).phase 12 = .bridged ∧
      ((at12 .rolling).trunk 12).binding = some binding12 := by decide +kernel

/-- A processor write of CONNECT from 389, with no link free. -/
def fullPool : State :=
  granted
    { at12 .rolling with links := List.replicate 1024 { talker := { port := 12, slot := 6 }, listener := 1300 } }
    (.write 700 (listedWord .connect 389))

/-- A write that removes the link at which the cursor stands, and one that names a talker when no link is free. -/
theorem witness_ProcessorWriteLandsOnItsLandingSet_links :
    walking.storeSound ∧ walking.arbiter.inProgress = some (.processor (.write 969 (listedWord .connect 647))) ∧
      walking.landingSet 969 = [969] ∧
      walking.linkAt 969 = some { talker := { port := 12, slot := 5 }, listener := 969 } ∧
      walking.namedTalker (walking.translateWrite (listedWord .connect 647)) = none ∧
      walking.links.length < linkPoolSize ∧ (walking.trunk 12).indexLost = false ∧
      fullPool.landingSet 700 = [700] ∧ fullPool.linkAt 700 = none ∧ linkPoolSize ≤ fullPool.links.length ∧
      fullPool.namedTalker (fullPool.translateWrite (listedWord .connect 389)) = some { port := 12, slot := 5 } := by
  simp only [State.storeSound]; decide +kernel

/-- A store whose word at 969 holds a fibre form of port 77, and whose word at 5 is parity-failed. -/
def stored : List (Nat × Word) := [(5, 1), (969, physicalWord .connect 2467)]

theorem witness_ProcessorReadReturnsTheListedWord :
    (granted { at12 .rolling with store := stored } (.read 969)).arbiter.inProgress = some (.processor (.read 969)) ∧
      parityFailed (physicalWord .connect 2467) = false ∧
      (at12 .rolling).readIsStray (physicalWord .connect 2467) = false ∧
      ({ at12 .rolling with store := stored } : State).readWord 5 = 1 ∧ parityFailed 1 = true ∧
      ready.readIsStray (physicalWord .connect 2467) = true := by decide +kernel

/-- The words of each form that a read returns: a copper source, a fibre form of a bound and of an unbound port, and a
TONE. -/
theorem witness_ProcessorReadReturnsTheListedWord_forms :
    physicalMode (physicalWord .monitor 2047) = .monitor ∧ (physicalSource (physicalWord .monitor 2047)).toNat < 2048 ∧
      physicalSource (physicalWord .connect 2467) = fibreForm 13 map35 5 ∧
      (at12 .rolling).boundTo 13 = some 12 ∧ validMap map35 = true ∧
      physicalSource (physicalWord .connect 2467) = fibreChannel 13 3 ∧ ready.boundTo 13 = none ∧
      physicalMode (physicalWord .tone 25) = .tone := by decide +kernel

theorem witness_ReadStoreReturnsTheRawWord :
    (∀ n ∈ [4095, 4096], let w := BitVec.ofNat 16 n
      (completing ready 0x51FF [] 1 w).channelAct = some (.execute .readStore 0xFF [w]) ∧
        (completing ready 0x51FF [] 1 w).channel.state = .collecting 0x51FF [] 1 ∧
        (completing ready 0x51FF [] 1 w).arbiter.inProgress = none ∧
        (completing ready 0x51FF [] 1 w).sweeps = [] ∧ (completing ready 0x51FF [] 1 w).due = []) ∧
    targetOf 0xFF = .noRecord ∧
    (completing (sweeping (at12 .bridging) (sweep12 .bridge (.slot 3))) 0x51FF [] 1 969).channelAct =
      some (.execute .readStore 0xFF [969]) ∧
    (granted (completing ready 0x51FF [969] 1 969) (.raw 969)).arbiter.inProgress =
      some (.processor (.raw 969)) := by decide +kernel

/-! ## Witnesses: words, maps and faults -/

/-- A check that a state's binding tables agree, for small states. -/
def tablesAgree (s : State) : Bool :=
  allPorts.all (fun p =>
    match (s.trunk p).binding with
    | none => s.phase p = .free
    | some b => s.phase p != .free && validMap b.map && b.digest = mapDigest b.map && s.boundTo b.fibre = some p &&
        allPorts.all (fun q => match (s.trunk q).binding with
          | none => true
          | some c => b.circuit != c.circuit || p = q)) &&
  (List.finRange 64).all (fun F =>
    match s.boundTo F with
    | none => true
    | some p => match (s.trunk p).binding with
      | none => false
      | some b => b.fibre = F)

theorem bindingSound_of_tablesAgree (s : State) (h : tablesAgree s = true) : s.bindingSound := by
  simp only [tablesAgree, Bool.and_eq_true, List.all_eq_true] at h
  obtain ⟨hp, hF⟩ := h
  have hp' (p : Port) := hp p (by simp [allPorts])
  refine ⟨fun p => ?_, fun p b hb => ?_, fun F p hF' => ?_, fun p q b c hb hc hbc => ?_⟩
  · have := hp' p
    cases hb : (s.trunk p).binding with
    | none => simpa [hb] using this
    | some b => simp [hb] at this; simp [this]
  · have := hp' p
    simp only [hb, Bool.and_eq_true, decide_eq_true_eq] at this
    exact ⟨this.1.1.1.2, this.1.1.2, this.1.2⟩
  · have := hF F (by simp)
    simp only [hF'] at this
    cases hb : (s.trunk p).binding with
    | none => simp [hb] at this
    | some b => exact ⟨b, rfl, by simpa [hb] using this⟩
  · have := hp' p
    simp only [hb, Bool.and_eq_true, List.all_eq_true] at this
    have := this.2 q (by simp [allPorts])
    simpa [hc, hbc] using this

/-- Record 12 keeps its binding from ROLLING to MIGRATED. -/
theorem witness_WordsAndSourcesRoundTrip :
    (at12 .rolling).bindingSound ∧ (at12 .migrated).bindingSound ∧
      ∀ p b, ((at12 .rolling).trunk p).binding = some b →
        ∃ c, ((at12 .migrated).trunk p).binding = some c ∧ c.fibre = b.fibre ∧ c.map = b.map := by
  refine ⟨bindingSound_of_tablesAgree _ (by decide +kernel), bindingSound_of_tablesAgree _ (by decide +kernel), ?_⟩
  intro p b hb
  have same : ∀ q, ((at12 .migrated).trunk q).binding = ((at12 .rolling).trunk q).binding := by decide +kernel
  exact ⟨b, (same p).trans hb, rfl, rfl⟩

theorem witness_MapDigestStaysWithinItsBounds :
    validMap identityMap = true ∧ validMap map35 = true ∧ (3 : Slot) ≠ 5 := by decide +kernel

theorem witness_FallbackDispatchTakesRecordsBack :
    ∀ ph ∈ [Phase.armed, .rolling, .rolled, .releasing, .tracked],
      ((at12 ph).source .fibreAlarm).mask = false ∧ ((at12 ph).source .fibreAlarm).cls = .fallback ∧
        ((at12 ph).recordOccurrence .fibreAlarm (some 12)).atBoundary.phase 12 = ph := by decide +kernel

/-! ## Witnesses: the session and the commands -/

theorem witness_SessionTakesWindowWrites :
    (commanded ready 0x100C).port.cycle = some { cycle := .write 2016 0x100C, cls := some .channel } ∧
      (commanded ready 0x100C).rawPending = false ∧ (commanded ready 0x100C).due = [] ∧
      (commanded ready 0x100C).channel.state = .opened ∧
      (commandOfCode 0x10).map Command.parameterWords = some 17 ∧
      (commandOfCode 0x01).map Command.parameterWords = some 0 ∧ commandOfCode 0x02 = none ∧
      (commanded ready 0x0200).dispatches .channelProtocol = false ∧
      (completing ready 0x28FF [1] 2 7).channel.state = .collecting 0x28FF [1] 2 ∧
      (commanded bridging3 0x7FFF).arbiter.inProgress = some (.sweep .bridge 12) ∧
      (commanded bridging3 0x7FFF).rawPending = false ∧ (commanded bridging3 0x7FFF).due = [] := by decide +kernel

theorem witness_SessionOpensAndAnswersReads :
    (granted ready (.read 2016)).arbiter.inProgress = some (.processor (.read 2016)) ∧
      (granted ready (.write 2016 0)).arbiter.inProgress = some (.processor (.write 2016 0)) ∧
      (∀ c ∈ [ChannelState.opened, .answering [0x0002, 700] 1, .collecting 0x50FF [0] 4],
        (reading ready c).port.cycle = some { cycle := .read 2016, cls := some .channel } ∧
          (reading ready c).rawPending = false ∧ (reading ready c).due = [] ∧
          (reading ready c).channel.state = c ∧
          (reading ready c).dispatches .channelProtocol = false) := by decide +kernel

/-- Record 12 in a phase with a lock. -/
def locked12 (ph : Phase) (l : Lock) : State := with12 ready { record12 ph with lock := l }

theorem witness_RefusalsAnswerFirst :
    (commanded ready 0x11FF).channelAct = some (.execute .unbind 0xFF []) ∧
      Command.accepts .unbind (targetOf 0xFF) = false ∧
      (commanded ready 0x1186).channelAct = some (.execute .unbind 0x86 []) ∧
      ready.members (targetOf 0x86) = [] ∧
      (commanded (locked12 .tracked .locked) 0x210C).channelAct = some (.execute .bridge 0x0C []) ∧
      ((commanded (locked12 .tracked .locked) 0x210C).trunk 12).lock ≠ .unlocked ∧
      (commanded ((at12 .tracked).setHold true) 0x210C).inHold = true ∧
      ((commanded ((at12 .tracked).setHold true) 0x210C).trunk 12).lock = .unlocked := by decide +kernel

/-- The part at the last PREPARE unit of trunk 12, with a command waiting. -/
def preparing12 (command : Word) : State :=
  commanded (sweeping (with12 ready { record12 .bound with binding := some { binding12 with prepared := false } })
    (sweep12 .prepare (.slot 31))) command

/-- A refused command during a unit: BRIDGE of a BOUND record, for the last clause. -/
theorem witness_RefusalsAnswerFirst_during_a_unit :
    (preparing12 0x210C).channelAct = some (.execute .bridge 0x0C []) ∧
      Answer.refused (Command.answer .bridge 0x0C [] (preparing12 0x210C)) = true ∧
      (preparing12 0x210C).arbiter.inProgress ≠ none := by decide +kernel

/-- Sections 3.2 and 5.3: ABORT that waits for the last PREPARE unit cancels the sweep, and the record is not prepared; the
refused BRIDGE answers at once and leaves the unit in progress. -/
theorem test_abort_on_the_last_unit :
    (after .abort (preparing12 0x260C)).channel.lastResult = .accepted ∧
      (after .abort (preparing12 0x260C)).sweeps = [] ∧
      ((after .abort (preparing12 0x260C)).trunk 12).binding.map Binding.prepared = some false ∧
      (after .bridge (preparing12 0x210C)).channel.lastResult = .state ∧
      (after .bridge (preparing12 0x210C)).arbiter.inProgress = some (.sweep .prepare 12) := by decide +kernel

/-- Section 3.3: PRST during a knock read leaves the knock count at 0. -/
theorem test_prst_during_a_knock :
    (after .prst (granted ready (.read 2016))).channel = initialChannel ∧
      (after .prst (granted ready (.read 2016))).arbiter.inProgress = none := by decide +kernel

theorem witness_GroupCommandActsOnEachMember :
    (completing session117 0x2281 [] 1 20000).channelAct = some (.execute .roll 0x81 [20000]) ∧
      targetOf 0x81 = .group 1 ∧ targetOf 0x87 = .allBound ∧
      Command.onRecord .roll [20000] = some (rollOne 20000) ∧
      ((completing session117 0x2281 [] 1 20000).foundBy .roll 0x81 [20000]).members (.group 1) = [5, 12] := by
  refine ⟨by decide +kernel, by decide +kernel, by decide +kernel, rfl, by decide +kernel⟩

/-- BIND's 17 words for a fibre port, a circuit and the map that exchanges slots 3 and 5, and its last 16. -/
def bindWords (first circuit slots12 : Word) : List Word :=
  [first, circuit, slots12, 0x0405, 0x0603, 0x0807, 0x0A09, 0x0C0B, 0x0E0D, 0x110F, 0x1312, 0x1514, 0x1716, 0x1918,
   0x1B1A, 0x1D1C, 0x1F1E]

/-- The BIND command of copper port 20 with its words. -/
def binding20 (first circuit slots12 : Word) : State :=
  completing (at12 .tracked) 0x1014 ((bindWords first circuit slots12).take 16) 17 0x1F1E

/-- What `given` says of the map in the statement of BIND, for map35. -/
theorem witness_BindMakesTheRecordBound :
    (bindWords 78 300 0x0201).length = 17 ∧
      (∀ n ∈ [63, 64, 77, 127, 128], let first := BitVec.ofNat 16 n
        (binding20 first 300 0x0201).channelAct = some (.execute .bind 0x14 (bindWords first 300 0x0201)) ∧
          (((binding20 first 300 0x0201).foundBy .bind 0x14 (bindWords first 300 0x0201)).trunk 20).phase = .free) ∧
      (at12 .tracked).boundTo 13 ≠ none ∧ (at12 .tracked).boundTo 14 = none ∧
      validMap map35 = true ∧
      (∀ k : Slot, (bindEntries (bindWords 78 300 0x0201))[k.val]? = some (BitVec.ofNat 8 map35[k].val)) ∧
      mapOfBytes (bindEntries (bindWords 78 300 0x0220)) = none := by decide +kernel

theorem witness_UnbindAndGroupsActOnTheRecord :
    (commanded (at12 .bound) 0x110C).channelAct = some (.execute .unbind 0x0C []) ∧
      targetOf 0x0C = .copper 12 ∧
      (((commanded (at12 .bound) 0x110C).foundBy .unbind 0x0C []).trunk 12).lock = .unlocked ∧
      ((commanded (at12 .bound) 0x110C).foundBy .unbind 0x0C []).phase 12 = .bound ∧
      (∀ n ∈ [0xFF10, 0x7000, 0xE000, 0x6543], let w := BitVec.ofNat 16 n
        (completing (at12 .bound) 0x120C [] 1 w).channelAct = some (.execute .groups 0x0C [w])) := by decide +kernel

theorem witness_LockAndUnlockFollowTheTable :
    (commanded (at12 .tracked) 0x130C).channelAct = some (.execute .lock 0x0C []) ∧
      (commanded (at12 .tracked) 0x1487).channelAct = some (.execute .unlock 0x87 []) ∧
      ((commanded (at12 .tracked) 0x1487).foundBy .unlock 0x87 []).members (targetOf 0x87) = [12] ∧
      ((commanded (at12 .tracked) 0x130C).foundBy .lock 0x0C []).members (targetOf 0x0C) = [12] := by decide +kernel

/-- Two members whose results differ, for the last clause: a PINNED record and an unlocked one. -/
theorem witness_LockAndUnlockFollowTheTable_mixed :
    let s := (at12 .tracked).setTrunk 13 { (at12 .migrated).trunk 12 with lock := .pinned }
    (commanded s 0x1487).channelAct = some (.execute .unlock 0x87 []) ∧
      ((commanded s 0x1487).foundBy .unlock 0x87 []).members (targetOf 0x87) = [12, 13] ∧
      (unlockOne s 12).2 = .done ∧ (unlockOne s 13).2 = .locked := by decide +kernel

theorem witness_PinAndEraseStartImageOperations :
    (commanded (at12 .migrated) 0x150C).channelAct = some (.execute .pin 0x0C []) ∧
      ((commanded (at12 .migrated) 0x150C).foundBy .pin 0x0C []).phase 12 = .migrated ∧
      ((commanded (at12 .migrated) 0x150C).foundBy .pin 0x0C []).image.state = .ready ∧
      ((commanded (at12 .migrated) 0x150C).foundBy .pin 0x0C []).slot 12 = .blank ∧
      (commanded erasing 0x16FF).channelAct = some (.execute .eraseImage 0xFF []) ∧
      (commanded ready 0x16FF).channelAct = some (.execute .eraseImage 0xFF []) := by decide +kernel

theorem witness_StartBridgeAndRecensusQueueTheirSweeps :
    (commanded (at12 .bound) 0x200C).channelAct = some (.execute .start 0x0C []) ∧
      (commanded (at12 .tracked) 0x210C).channelAct = some (.execute .bridge 0x0C []) ∧
      (commanded (at12 .bridged) 0x270C).channelAct = some (.execute .recensus 0x0C []) ∧
      (∀ e ∈ [(Phase.bound, Command.start), (.tracked, .bridge), (.bridged, .recensus)],
        let u := (at12 e.1).foundBy e.2 0x0C []
        (u.trunk 12).lock = .unlocked ∧ u.inHold = false ∧ u.phase 12 = e.1 ∧ u.hasSweep 12 = false ∧
          u.announcedCount < 8) := by decide +kernel

theorem witness_RequestsAndAutoAreRecorded :
    (∀ n ∈ [0, 1, 16384, 16385], let lead := BitVec.ofNat 16 n
      (completing (at12 .bridged) 0x220C [] 1 lead).channelAct = some (.execute .roll 0x0C [lead]) ∧
        (completing (at12 .bound) 0x280C [1] 2 lead).channelAct = some (.execute .auto 0x0C [1, lead])) ∧
      (commanded (at12 .rolled) 0x240C).channelAct = some (.execute .release 0x0C []) ∧
      (completing (at12 .bound) 0x280C [2] 2 7).channelAct = some (.execute .auto 0x0C [2, 7]) ∧
      (((at12 .bridged).foundBy .roll 0x0C [1]).trunk 12).lock = .unlocked ∧
      ((at12 .bridged).foundBy .roll 0x0C [1]).inHold = false := by
  decide +kernel

theorem witness_DisarmAndFallbackReturnTheRecord :
    (commanded (at12 .armed) 0x230C).channelAct = some (.execute .disarm 0x0C []) ∧
      (commanded (at12 .rolled) 0x250C).channelAct = some (.execute .fallback 0x0C []) ∧
      (∀ ph ∈ [Phase.armed, .rolling, .rolled, .releasing, .unrolling],
        ((commanded (at12 ph) 0x250C).foundBy .fallback 0x0C []).phase 12 = ph) := by decide +kernel

theorem witness_AbortActsByPhase :
    ∀ ph ∈ [Phase.free, .bound, .census, .tracked, .bridging, .bridged, .armed, .rolling, .rolled, .releasing,
        .migrated, .unrolling, .unbridging],
      (commanded (at12 ph) 0x260C).channelAct = some (.execute .abort 0x0C []) ∧
        (((commanded (at12 ph) 0x260C).foundBy .abort 0x0C []).trunk 12).lock = .unlocked ∧
        ((commanded (at12 ph) 0x260C).foundBy .abort 0x0C []).phase 12 = ph := by decide +kernel

theorem witness_HoldAndClearHoldSetTheFlag :
    (commanded ready 0x30FF).channelAct = some (.execute .hold 0xFF []) ∧
      (commanded ready 0x31FF).channelAct = some (.execute .clearHold 0xFF []) ∧ targetOf 0xFF = .noRecord := by
  decide +kernel

theorem witness_ClearFaultsClearsEverySource :
    (commanded failedRead 0x42FF).channelAct = some (.execute .clearFaults 0xFF []) ∧
      (commanded failedRead 0x4200).channelAct = some (.execute .clearFaults 0x00 []) ∧
      (failedRead.source .storeParity).sticky = true := by decide +kernel

theorem witness_SetActionSetsMaskAndClass :
    ∀ n ∈ [0x0000, 0x0001, 0x0310, 0x030C, 0x0011], let w := BitVec.ofNat 16 n
      (completing ready 0x43FF [] 1 w).channelAct = some (.execute .setAction 0xFF [w]) := by decide +kernel

theorem witness_SetTimingClampsTheFiveSettings :
    (∀ n ∈ [0xFFFC, 0xFFFD, 4, 5], let trim := BitVec.ofNat 16 n
      (completing ready 0x50FF [trim, 0x08EA, 25] 4 6).channelAct =
        some (.execute .setTiming 0xFF [trim, 0x08EA, 25, 6])) := by decide +kernel

theorem witness_StatusReportsTheDevice :
    (commanded ready 0x01FF).channelAct = some (.execute .status 0xFF []) ∧
      ready.timing.soakMantissa < 256 ∧ ready.timing.soakExponent < 256 ∧ ready.timing.beaconPeriod < 256 ∧
      ready.timing.silenceLimit < 256 ∧ ready.announcedCount < 16 := by decide +kernel

theorem witness_QueryTrunkReportsTheRecord :
    (commanded (at12 .tracked) 0x400C).channelAct = some (.execute .queryTrunk 0x0C []) ∧
      (commanded (at12 .tracked) 0x4000).channelAct = some (.execute .queryTrunk 0x00 []) ∧
      ((at12 .tracked).trunk 12).binding ≠ none ∧ ((at12 .tracked).trunk 0).binding = none := by decide +kernel

/-- A ROLL unit at a parity-failed word, STORE_PARITY of class FALLBACK, and QUERY_TRUNK of record 12 waiting. -/
def replaced12 : State :=
  commanded
    (sweeping
      (({ at12 .rolling with store := [(5, 1)] } : State).setSource .storeParity
        { (ready.source .storeParity) with cls := .fallback })
      (sweep12 .roll (.index (some (5, 5)))))
    0x400C

/-- Section 5.2: the UNROLL that replaces an executing ROLL begins at the same boundary, so its mode is present. -/
theorem test_query_sees_the_unroll_begun :
    (match (after .queryTrunk replaced12).channel.state with
      | .answering words _ => words[13]?.map (fun w => w.extractLsb' 0 6)
      | _ => none) = some 0x2D#6 ∧
      replaced12.channelAct = some (.execute .queryTrunk 0x0C []) := by decide +kernel

theorem witness_QueryFaultsAndQueryIndexReport :
    (commanded failedRead 0x41FF).channelAct = some (.execute .queryFaults 0xFF []) ∧
      (∀ n ∈ [0, 31, 32], let slot := BitVec.ofNat 16 n
        (completing session117 0x520C [] 1 slot).channelAct = some (.execute .queryIndex 0x0C [slot])) ∧
      failedRead.faults.first ≠ none ∧ (failedRead.source .storeParity).count ≤ 255 := by decide +kernel

/-! ## Witnesses: store units and completions -/

/-- The part at a unit of a sweep of trunk 12. -/
def unitAt (ph : Phase) (kind : SweepKind) (c : Cursor) : State :=
  sweeping { at12 ph with store := stored } (sweep12 kind c)

/-- A sweep of trunk 12 with its scan set taken. -/
def scanning12 (kind : SweepKind) (c : Cursor) : Sweep := { sweep12 kind c with scanSet := some [13] }

theorem witness_IdlingUnitsWriteTheIdleWord :
    (unitAt .bound .prepare (.slot 31)).storeSound ∧
      (unitAt .bound .prepare (.slot 31)).sweepUnit 12 (sweep12 .prepare (.slot 31)) binding12 ∧
      (unitAt .releasing .release (.slot 0)).sweepUnit 12 (sweep12 .release (.slot 0)) binding12 ∧
      (unitAt .unbridging .unbridge (.slot 31)).sweepUnit 12 (sweep12 .unbridge (.slot 31)) binding12 := by
  simp only [State.storeSound, State.sweepUnit]; decide +kernel

theorem witness_BridgeUnitCopiesTheCopperWord :
    (unitAt .bridging .bridge (.slot 3)).storeSound ∧
      (unitAt .bridging .bridge (.slot 3)).sweepUnit 12 (sweep12 .bridge (.slot 3)) binding12 ∧
      parityFailed ((unitAt .bridging .bridge (.slot 3)).readWord (copperChannel 12 3)) = false ∧
      (unitAt .bridging .bridge (.slot 3)).links.length < linkPoolSize := by
  simp only [State.storeSound, State.sweepUnit]; decide +kernel

/-- The CENSUS unit of trunk 12 at listed 969. -/
def census969 : State := sweeping { at12 .census with store := stored } (scanning12 .census (.census 969))

theorem witness_CensusUnitGathersTheListener :
    census969.sweepUnit 12 (scanning12 .census (.census 969)) binding12 ∧ scanAddress [13] 969 = 969 ∧
      census969.namedTalker (census969.readWord 969) = some { port := 12, slot := 5 } ∧
      census969.linkAt 969 = none ∧ census969.links.length < linkPoolSize := by
  simp only [State.sweepUnit]; decide +kernel

/-- The positions at which the clauses of a census or scan set meet. -/
theorem witness_CensusUnitGathersTheListener_positions :
    (2047 : Nat) < 2048 ∧ (2048 : Nat) = 2048 + 32 * 0 + 0 ∧ (scanning12 .census (.census 2048)).ports[0]? = some 13 ∧
      scanAddress [13] 2047 = 2047 ∧ scanAddress [13] 2048 = 2464 := by decide +kernel

/-- The UNROLL unit of trunk 12 at listed 969, in the second pass of SCAN mode. -/
def unroll969 : State := sweeping { at12 .unrolling with store := stored } (scanning12 .unroll (.scan true 969))

theorem witness_RollAndUnrollUnitsRewriteTheListener :
    (unitAt .rolling .roll (.index (some (5, 969)))).storeSound ∧
      (unitAt .rolling .roll (.index (some (5, 969)))).sweepUnit 12 (sweep12 .roll (.index (some (5, 969))))
        binding12 ∧
      unroll969.storeSound ∧ unroll969.sweepUnit 12 (scanning12 .unroll (.scan true 969)) binding12 ∧
      validMap map35 = true ∧ scanAddress [13] 969 = 969 ∧
      physicalSource (unroll969.readWord 969) = fibreForm 13 map35 5 ∧
      walking.followed 12 = true ∧ walking.linkAt 969 = some { talker := { port := 12, slot := 5 }, listener := 969 } := by
  simp only [State.storeSound, State.sweepUnit]; decide +kernel

/-- The part with trunk 12's sweep at the end of its units. -/
def ended (ph : Phase) (sw : Sweep) : State := { at12 ph with sweeps := [sw] }

theorem witness_CompletionsMoveTheRecord :
    (∀ e ∈ [(Phase.bound, sweep12 .prepare (.slot 32)), (.bridging, sweep12 .bridge (.slot 32)),
        (.tracked, scanning12 .census (.census 2080)), (.census, scanning12 .census (.census 2080)),
        (.rolling, sweep12 .roll (.index none)), (.releasing, sweep12 .release (.slot 32)),
        (.unbridging, sweep12 .unbridge (.slot 32))],
      (ended e.1 e.2).finishUnit.engine.completed = some e.2 ∧ (ended e.1 e.2).finishUnit.engine.phase 12 = e.1 ∧
        (ended e.1 e.2).channelAct = none ∧ (ended e.1 e.2).due = []) ∧
    (∀ undo ∈ [UndoTarget.bridged, .bound],
      (with12 { ready with sweeps := [scanning12 .unroll (.scan true 2080)] }
        { record12 .unrolling with undo := some undo }).finishUnit.engine.completed =
        some (scanning12 .unroll (.scan true 2080))) := by decide +kernel

/-! ## Witnesses: timing and the boundary evaluation -/

theorem witness_FramePulseStepsTheCounters :
    ready.somethingDue = false ∧ (locked2 13 15 .locked).somethingDue = false ∧
      (locked2 13 63 .flywheel).somethingDue = false ∧ ready.dispatches .syncRealign = false := by decide +kernel

theorem witness_SyncStatesFollowMissesAndAbsence :
    Due.mfsMiss ∈ (dueNow ready .mfsMiss).due ∧ Due.adriftEntry ∈ (dueNow ready .adriftEntry).due ∧
      ready.somethingDue = false ∧ ready.dispatches .syncLoss = false := by decide +kernel

/-- Record 12 ROLLED, one boundary before its soak expires. -/
def soaking : State := with12 ready { record12 .rolled with soak := some 1 }

theorem witness_BoundaryStepsEveryTimer :
    (dueNow soaking .boundary).due = [.boundary] := by decide +kernel

theorem witness_EvaluationStepsChangeThePhase :
    (dueNow soaking (.soakExpiry 12)).nextStep = some (.soakExpiry 12) ∧ soaking.phase 12 = .rolled ∧
      (dueNow soaking (.releaseAtBoundary 12)).nextStep = some (.releaseAtBoundary 12) ∧
      (dueNow (at12 .bridged) (.arming 12 400)).nextStep = some (.arming 12 400) ∧
      (dueNow (at12 .armed) (.returnToBridged 12)).nextStep = some (.returnToBridged 12) ∧
      (dueNow (at12 .armed) (.returnToBridged 12)).nextStep ≠ some (.soakExpiry 12) := by decide +kernel

/-- A peer view of circuit 10775 that opens both gates of record 12. -/
def openView : PeerView :=
  { newView 10775 with phase := .listed .rolled, commit := true, digest := some 11436, heardAt := some 0 }

/-- The part with the peer heard and record 12's view open. -/
def heard (s : State) : State :=
  ({ s with timing := { s.timing with silenceCountdown := 150 } } : State).setView 12 (some openView)

/-- The evaluation steps really are taken: arming, a roll start and a release. -/
theorem test_evaluation_steps_taken :
    (heard (with12 ready { record12 .bridged with rollRequest := some 400 })).wantsArming 12 = true ∧
      (heard (with12 ready { record12 .armed with epoch := some 0 })).mayRoll 12 = true ∧
      (heard (with12 ready { record12 .rolled with commit := true, releaseRequest := true })).wantsRelease 12 = true ∧
      (with12 ready { record12 .armed with epoch := some 0 }).wantsReturn 12 = true := by decide +kernel

theorem witness_AutomaticStepsActAsTheCommands :
    (dueNow (with12 ready { record12 .bound with autoLead := some 5 }) (.autoStart 12)).nextStep =
        some (.autoStart 12) ∧
      (with12 ready { record12 .bound with autoLead := some 5 }).wantsAutoStart 12 = true ∧
      (dueNow (with12 ready { record12 .tracked with autoLead := some 5 }) (.autoBridge 12)).nextStep =
        some (.autoBridge 12) ∧
      (with12 ready { record12 .tracked with autoLead := some 5 }).wantsAutoBridge 12 = true := by decide +kernel

/-- Record 12 ARMED with its epoch one boundary past and its gate open. -/
def late12 : State :=
  let s := heard (with12 ready { record12 .armed with epoch := some 0xFFFF })
  { s with armedList := [12], due := [.rollStart 12] }

theorem witness_RollStartTakesTheFirstReadyRecord :
    late12.nextStep = some (.rollStart 12) ∧ late12.rollCandidate = some 12 ∧
      (late12.takeDue (.rollStart 12)).atBoundary.phase 12 = .armed ∧
      ((late12.takeDue (.rollStart 12)).atBoundary.trunk 12).epoch = some 0xFFFF ∧
      ((after .rollStart late12).source .rollLate).count = 1 := by decide +kernel

/-- Section 7.1: two records that arm at one boundary join the armed list in ascending port order, and a row named out of
its turn does not occur. -/
def arming2 : State := { (at12 .bridged).setTrunk 30 (record12 .bridged) with due := [.arming 12 400, .arming 30 7] }

theorem test_arming_in_port_order :
    after (.arming 30) arming2 = arming2 ∧
      (after (.arming 30) (after (.arming 12) arming2)).armedList = [12, 30] := by decide +kernel

/-! ## Witnesses: the peer link -/

theorem witness_BeaconsBeginAtBoundaries :
    Due.beaconCountdownExpiry ∈ (dueNow ready .beaconCountdownExpiry).due ∧
      Due.beaconTransmit ∈ (dueNow ready .beaconTransmit).due ∧ ready.somethingDue = false := by decide +kernel

theorem witness_FramesReadBackAsTheyWereMade :
    ready.link.receiver = .hunt ∧ (List.replicate 60 (0xD3 : Byte)).length ≤ 60 ∧
      ([(0 : Byte), 0x20, 0, 0, 0, 0, 0, 0]).length = 8 := by decide +kernel

theorem witness_ReceiverTakesEachByte :
    ∀ r ∈ [ReceiverState.hunt, .kind, .length, .payload, .check],
      ({ ready with link := { ready.link with receiver := r } } : State).somethingDue = false := by decide +kernel

/-- A discard while bytes of an earlier one are still to be re-taken, and a gap expiry before the silence. -/
def discarding : State :=
  { dueNow hidden .frameDiscard with link := { hidden.link with retaking := [1, 2], held := [0xD3, 5] } }

/-- The part as a boundary finds it at which the peer turns silent and the gap expires. -/
def silentFirst : State := { hidden with due := [.peerSilent, .gapExpiry] }

theorem witness_DiscardedFramesAreRetaken :
    Due.gapExpiry ∈ hidden.due ∧ hidden.nextStep = none ∧ Due.peerSilent ∉ hidden.due ∧
      Due.frameDiscard ∈ discarding.due ∧ (0xD3 : Byte) ∉ discarding.link.held.drop 1 ++ discarding.link.retaking ∧
      Due.frameIgnored ∈ (dueNow ready .frameIgnored).due ∧ Due.peerSilent ∈ silentFirst.due := by decide +kernel

/-- Section 6.7: at one boundary the gap expiry follows the transition to silence. -/
theorem test_gap_expiry_follows_silence :
    after .gapExpiry silentFirst = silentFirst ∧
      (after .gapExpiry (after .peerSilent silentFirst)).due = [.alarmFrame [0, 0x20, 0, 0, 0, 0, 0, 0]] := by
  decide +kernel

/-- Section 6.2: a frame pulse and its boundary are one event, between whose rows no command is served. -/
theorem test_no_command_within_a_pulse :
    let s := dueNow (commanded ready 0x01FF) .boundary
    after .status s = s ∧ (after .status (after .multiframeBoundary s)).port.cycle = none ∧
      (after .multiframeBoundary s).timing.multiframe = 1 := by decide +kernel

/-- Record 12 ARMED, its view listing ARMED, and the beacon of the last row of section 9.11 due. -/
def beaconDue12 : State :=
  dueNow
    ((at12 .armed).setView 12 (some { newView 10775 with phase := .listed .armed, digest := some 11436 }))
    (.beaconFrame [9, 3, 0])

theorem witness_BeaconsAndSilenceChangeThePeerViews :
    Due.peerSilent ∈ (dueNow ready .peerSilent).due ∧ beaconDue12.due = [.beaconFrame [9, 3, 0]] ∧
      parseBeacon [9, 3, 0] = some (9, 3, []) ∧ beaconDue12.straps.site = Config.resetStraps.site ∧
      ((after .beaconFrame beaconDue12).source .peerWithdraw).lastTrunk = some 12 := by decide +kernel

/-- The alarm frame that names fibre port 77 due. -/
def alarmDue12 (ph : Phase) (commit : Bool) : State :=
  dueNow (with12 ready { record12 ph with commit := commit }) (.alarmFrame [0, 0x20, 0, 0, 0, 0, 0, 0])

theorem witness_AlarmFramesReplaceTheSet :
    (∀ e ∈ [(Phase.armed, false), (.rolled, false), (.rolled, true)],
      (alarmDue12 e.1 e.2).due = [.alarmFrame [0, 0x20, 0, 0, 0, 0, 0, 0]] ∧
        (alarmDue12 e.1 e.2).phase 12 = e.1) ∧
      (after .alarmFrame (alarmDue12 .rolled false)).phase 12 = .unrolling ∧
      ((after .alarmFrame (alarmDue12 .rolled true)).source .fibreDark).count = 1 := by decide +kernel

/-! ## Witnesses: the invariants -/

/-- The part with record 12 MIGRATED, committed and PINNED, and a processor write in the queue. -/
def pinned12 : State :=
  { with12 ready { record12 .migrated with commit := true, lock := .pinned } with
    pending := [.processorCycle (.write 387 0x0A87)] }

theorem witness_StoreAndCountsStaySound :
    pinned12.storeSound ∧ pinned12.collectorSound ∧ pinned12.allowanceSound ∧
      step pinned12 = .next (after (.processorCycle (.write 387 0x0A87)) { pinned12 with pending := [] }) := by
  refine ⟨by unfold State.storeSound; decide +kernel, ⟨fun src => ?_, by decide +kernel⟩,
    by unfold State.allowanceSound; decide +kernel, rfl⟩
  cases src <;> decide +kernel

theorem witness_CommittedAndPinnedRecordsStayForward :
    pinned12.commitSound ∧ (pinned12.trunk 12).commit = true ∧ (pinned12.trunk 12).lock = .pinned := by
  refine ⟨?_, by decide +kernel, by decide +kernel⟩
  unfold State.commitSound; decide +kernel

theorem witness_BindingTablesStayInAgreement : pinned12.bindingSound ∧ pinned12.loadSound :=
  ⟨bindingSound_of_tablesAgree _ (by decide +kernel), fun h => absurd h (by decide +kernel)⟩

/-- The part with record 12 in ROLLING and its ROLL, and record 12's port alone. -/
def rolling12 : State := { at12 .rolling with sweeps := [sweep12 .roll (.index none)] }

theorem witness_QueueAndArmedListStaySound : rolling12.sweepsSound ∧ rolling12.armedSound ∧ rolling12.loadSound := by
  refine ⟨⟨by decide +kernel, fun sw h => ?_, by decide +kernel⟩, ⟨by decide +kernel, by decide +kernel⟩,
    fun h => absurd h (by decide +kernel)⟩
  obtain rfl : sw = sweep12 .roll (.index none) := by simpa [rolling12] using h
  show rolling12.phase 12 = .rolling
  decide +kernel

theorem witness_AnnouncedSetStaysWithinEight :
    ((at12 .tracked).setView 12 (some openView)).announcedSound ∧
      ((at12 .tracked).setView 12 (some openView)).loadSound := by
  refine ⟨?_, fun h => absurd h (by decide +kernel)⟩
  unfold State.announcedSound; decide +kernel

theorem witness_ListenerIndexStaysSound : walking.indexSound ∧ walking.loadSound := by
  refine ⟨?_, fun h => absurd h (by decide +kernel)⟩
  unfold State.indexSound; decide +kernel

end Sys2Proof.Tests
end

section
/-! SUPPORT. The fault collection of chapter 10: the ALERT output as a level of flags, masks and classes (R183), and
CLEAR_FAULTS (R187). -/

namespace Sys2Proof.Machine

/-! ## The ALERT output (R183) -/

theorem FaultSource.mem_all (src : FaultSource) : src ∈ FaultSource.all := by cases src <;> decide

theorem FaultClass.ne_record_iff (c : FaultClass) : c ≠ .record ↔ c = .alert ∨ c = .hold ∨ c = .fallback := by
  cases c <;> decide

/-- ALERT as a level: some source has its sticky flag set, its mask clear and a class other than RECORD. -/
theorem State.alertLine_iff (s : State) :
    s.alertLine = true ↔ ∃ src, (s.source src).sticky = true ∧ (s.source src).mask = false ∧
      ((s.source src).cls = .alert ∨ (s.source src).cls = .hold ∨ (s.source src).cls = .fallback) := by
  simp only [← FaultClass.ne_record_iff]
  simp [State.alertLine, State.source, FaultSource.mem_all, and_assoc]

theorem State.alertLine_eq_false {s : State} (h : ∀ src, (s.source src).sticky = false) : s.alertLine = false := by
  rw [← Bool.not_eq_true, State.alertLine_iff]
  rintro ⟨src, hsticky, -⟩
  simp [h src] at hsticky

/-! ## The status word (section 11.8.2) -/

theorem getLsbD_wordOf_of_lt (high low : Byte) {i : Nat} (h : i < 8) :
    (wordOf high low).getLsbD i = low.getLsbD i := by
  rw [wordOf, BitVec.getLsbD_append, if_pos h]

theorem State.statusWord_alert (s : State) : s.statusWord.getLsbD 6 = s.alertLine := by
  rw [State.statusWord, getLsbD_wordOf_of_lt _ _ (by decide)]
  simp only [BitVec.getLsbD_append]
  simp

theorem State.statusWord_hold (s : State) : s.statusWord.getLsbD 5 = s.inHold := by
  rw [State.statusWord, getLsbD_wordOf_of_lt _ _ (by decide)]
  simp only [BitVec.getLsbD_append]
  simp

/-! ## The collector after power-on reset (R166, R179) -/

theorem State.source_reset (src : FaultSource) : State.reset.source src = .initial src.defaultClass := by
  cases src <;> rfl

theorem State.source_afterPowerOn (s : State) (straps : Straps) (made : Nat) (src : FaultSource) :
    (s.afterPowerOn straps made).source src = .initial src.defaultClass := State.source_reset src

/-- PEER_IDENTITY has class ALERT after power-on reset, so raising it there is its occurrence alone (R178, R182). -/
theorem State.raise_peerIdentity_afterPowerOn (s : State) (straps : Straps) (made : Nat) :
    (s.afterPowerOn straps made).raise .peerIdentity none =
      (s.afterPowerOn straps made).recordOccurrence .peerIdentity none := by
  apply State.raise_of_not_dispatches
  rw [State.dispatches_recordOccurrence, State.dispatches, State.source_afterPowerOn]
  rfl

/-- POWER_ON_RESET ends with the power-on values, and with an occurrence of PEER_IDENTITY on a link that SITE 0 or 255
disables (R166). -/
theorem exec_powerOnReset (straps : Straps) (made : Nat) (s : State) :
    exec (.powerOnReset straps made) s =
      .next (if straps.site = 0 ∨ straps.site = 255 then
        (s.afterPowerOn straps made).recordOccurrence .peerIdentity none
        else s.afterPowerOn straps made) := by
  have hlink : (s.afterPowerOn straps made).linkDisabled = true ↔ straps.site = 0 ∨ straps.site = 255 := by
    rw [State.linkDisabled, Bool.or_eq_true, decide_eq_true_iff, decide_eq_true_iff]; rfl
  simp only [exec, execPowerOnReset, State.raise_peerIdentity_afterPowerOn, hlink]

theorem State.alertLine_afterPowerOn (s : State) (straps : Straps) (made : Nat) :
    (s.afterPowerOn straps made).alertLine = false :=
  State.alertLine_eq_false fun src => by rw [State.source_afterPowerOn]; rfl

theorem State.alertLine_afterPowerOn_peerIdentity (s : State) (straps : Straps) (made : Nat) :
    ((s.afterPowerOn straps made).recordOccurrence .peerIdentity none).alertLine = true := by
  rw [State.alertLine_iff]
  refine ⟨.peerIdentity, ?_⟩
  rw [State.source_recordOccurrence, if_pos rfl, State.source_afterPowerOn]
  exact ⟨rfl, rfl, .inl rfl⟩

/-- Settles O16: ALERT is computed from the flags, masks and classes, so the claim is the meaning of that computation,
and after a power-on reset every flag is clear but that of the one occurrence at its end. -/
theorem alertFollowsFlagsMasksAndClasses : Obligations.AlertFollowsFlagsMasksAndClasses := by
  refine ⟨fun s => ⟨s.alertLine_iff, s.statusWord_alert, s.statusWord_hold⟩, ?_, fun straps made s => ?_⟩
  · exact State.alertLine_eq_false fun src => by rw [State.source_reset]; rfl
  · refine ⟨_, exec_powerOnReset straps made s, fun h0 h255 => ?_, fun hsite => ?_⟩
    · simp only [h0, h255, or_self, if_false, State.alertLine_afterPowerOn]
    · rw [if_pos hsite, State.alertLine_afterPowerOn_peerIdentity]

/-! ## What a served command leaves (R41, R195) -/

/-- A response formed at the end of the unit in progress: the cursor move of R85 (3) comes after it, and changes
nothing that is seen. -/
theorem State.answers_respond_moveCursorOf (r : Answer) (u : Option StoreUnit) :
    r.1.answers ((State.respond r).moveCursorOf u).resume r.2.1 r.2.2 := by
  have hmove := State.moveCursorOf_eq (State.respond r) u
  refine ⟨?_, ?_, ?_⟩
  · rw [State.answered, State.resume_channel, State.resume_port, hmove]
    exact ⟨rfl, rfl⟩
  · rw [State.resume_eq, hmove]; rfl
  · rw [State.resume_sweepQueue, State.moveCursorOf_sweepQueue]; rfl

/-- A served command answers from the state that it is found in, and leaves what its body left there. -/
theorem State.answers_serve {s : State} {c : Command} {target : Byte} {params : List Word}
    (h : s.completes c target params) :
    (c.answer target params (s.foundBy c target params)).1.answers (s.serve c c.answer)
      (c.answer target params (s.foundBy c target params)).2.1
      (c.answer target params (s.foundBy c target params)).2.2 := by
  rw [State.serve_of_completes _ h, State.foundBy]
  split
  · exact State.answers_respond _
  · exact State.answers_respond_moveCursorOf _ _

theorem deviceCommand_of_noRecord {target : Byte} (body : State → Answer) (s : State)
    (h : targetOf target = .noRecord) : deviceCommand body target s = body s := by
  simp [deviceCommand, h]

theorem deviceCommand_of_ne_noRecord {target : Byte} (body : State → Answer) (s : State)
    (h : targetOf target ≠ .noRecord) : deviceCommand body target s = (s, .badTarget, []) := by
  unfold deviceCommand
  split
  · contradiction
  · rfl

/-! ## CLEAR_FAULTS (R187) -/

/-- The sources of a list cleared in turn. -/
def State.clearSources (s : State) (srcs : List FaultSource) : State :=
  srcs.foldl (fun t src => t.setSource src (t.source src).cleared) s

theorem State.clearFaults_eq_clearSources (s : State) :
    s.clearFaults =
      { s.clearSources FaultSource.all with
        faults := { (s.clearSources FaultSource.all).faults with first := none } } := rfl

theorem State.clearSources_cons (s : State) (src : FaultSource) (rest : List FaultSource) :
    s.clearSources (src :: rest) = (s.setSource src (s.source src).cleared).clearSources rest := rfl

/-- Clearing sources touches the sources of the collector alone. -/
theorem State.clearSources_eq (s : State) (srcs : List FaultSource) :
    s.clearSources srcs =
      { s with faults := { s.faults with sources := (s.clearSources srcs).faults.sources } } := by
  induction srcs generalizing s with
  | nil => rfl
  | cons src rest ih => rw [State.clearSources_cons, ih]; rfl

theorem State.source_clearSources (s : State) (srcs : List FaultSource) (src : FaultSource) :
    (s.clearSources srcs).source src = if src ∈ srcs then (s.source src).cleared else s.source src := by
  induction srcs generalizing s with
  | nil => rfl
  | cons a rest ih =>
    rw [State.clearSources_cons, ih, State.source_setSource]
    by_cases ha : src = a
    · subst ha
      simp [SourceState.cleared]
    · simp [ha]

/-- What is held for a source depends on the sources of the collector alone. -/
theorem State.source_congr {s t : State} (h : s.faults.sources = t.faults.sources) (src : FaultSource) :
    s.source src = t.source src := by
  unfold State.source; rw [h]

/-- Every source is cleared, whatever it held. -/
theorem State.source_clearFaults (s : State) (src : FaultSource) :
    s.clearFaults.source src = (s.source src).cleared := by
  have hsources : s.clearFaults.faults.sources = (s.clearSources FaultSource.all).faults.sources := by
    rw [State.clearFaults_eq_clearSources]
  rw [State.source_congr hsources, State.source_clearSources, if_pos src.mem_all]

/-- In the collector CLEAR_FAULTS changes the sources and the first-fault record: the hold flag is kept. -/
theorem State.clearFaults_faults (s : State) :
    s.clearFaults.faults = { s.faults with sources := s.clearFaults.faults.sources, first := none } := by
  rw [State.clearFaults_eq_clearSources, State.clearSources_eq]

/-- CLEAR_FAULTS touches the fault collector alone. -/
theorem State.clearFaults_eq (s : State) : s.clearFaults = { s with faults := s.clearFaults.faults } := by
  rw [State.clearFaults_eq_clearSources, State.clearSources_eq]

theorem State.clearFaults_sweepQueue (s : State) : s.clearFaults.sweepQueue = s.sweepQueue := by
  rw [State.sweepQueue, State.clearFaults_eq, State.sweepQueue]

theorem Command.answer_clearFaults (target : Byte) (params : List Word) (s : State) :
    Command.clearFaults.answer target params s =
      deviceCommand (fun s => (s.clearFaults, .done, [])) target s := rfl

theorem exec_clearFaults (s : State) :
    exec .clearFaults s = .next (s.serve .clearFaults Command.clearFaults.answer) := rfl

/-- Settles O30, from the answer of a served command and what `State.clearFaults` does to each source. -/
theorem clearFaultsClearsEverySource : Obligations.ClearFaultsClearsEverySource := by
  intro s target params hcompletes
  have hanswers := State.answers_serve hcompletes
  simp only [Command.answer_clearFaults] at hanswers
  generalize s.foundBy .clearFaults target params = u at hanswers ⊢
  refine ⟨_, exec_clearFaults s, fun htarget => ?_, fun htarget => ?_⟩
  · rw [deviceCommand_of_ne_noRecord _ _ htarget] at hanswers
    exact hanswers
  · rw [deviceCommand_of_noRecord _ _ htarget] at hanswers
    dsimp only at hanswers
    generalize s.serve .clearFaults Command.clearFaults.answer = t at hanswers ⊢
    obtain ⟨⟨hchannel, hport⟩, hframe, hqueue⟩ := hanswers
    have hfaults : t.faults = u.clearFaults.faults := (congrArg State.faults hframe :)
    have hsource (src : FaultSource) : t.source src = (u.source src).cleared := by
      rw [State.source_congr (congrArg _ hfaults), State.source_clearFaults]
    rw [State.clearFaults_eq] at hport hframe
    rw [← hfaults] at hframe
    rw [State.clearFaults_sweepQueue] at hqueue
    refine ⟨⟨hchannel, hport⟩, hsource, ?_, ?_, ?_, hframe, hqueue⟩
    · rw [hfaults, State.clearFaults_faults]
    · rw [hfaults, State.clearFaults_faults]
    · exact State.alertLine_eq_false fun src => by rw [hsource]; rfl

end Sys2Proof.Machine
end

section
/-! SUPPORT. Facts about lists and fixed-size counts that core Lean does not hold: the package is built without Mathlib. -/

namespace Sys2Proof.Machine

/-- A list whose images are all different holds one element for each image. -/
theorem eq_of_map_nodup {α β : Type} {f : α → β} {l : List α} (h : (l.map f).Nodup) {x y : α} (hx : x ∈ l)
    (hy : y ∈ l) (hf : f x = f y) : x = y := by
  induction l with
  | nil => exact absurd hx List.not_mem_nil
  | cons a l ih =>
    obtain ⟨ha, hl⟩ := List.nodup_cons.mp h
    rcases List.mem_cons.mp hx with hxa | hxl
    · rcases List.mem_cons.mp hy with hya | hyl
      · exact hxa.trans hya.symm
      · exact absurd (hxa ▸ hf ▸ List.mem_map_of_mem hyl) ha
    · rcases List.mem_cons.mp hy with hya | hyl
      · exact absurd (hya ▸ hf ▸ List.mem_map_of_mem hxl) ha
      · exact ih hl hxl hyl

/-- In a list without repetition a condition that grows at one element alone counts one element more at most. -/
theorem countP_le_succ_of_nodup {α : Type} {l : List α} (hl : l.Nodup) (a : α) {f g : α → Bool}
    (h : ∀ x, x ≠ a → f x = true → g x = true) : l.countP f ≤ l.countP g + 1 := by
  induction l with
  | nil => exact Nat.zero_le _
  | cons x l ih =>
    obtain ⟨hx, hl⟩ := List.nodup_cons.mp hl
    rw [List.countP_cons, List.countP_cons]
    by_cases hxa : x = a
    · have hrest : l.countP f ≤ l.countP g :=
        List.countP_mono_left fun y hy => h y fun hya => hx (hxa ▸ hya ▸ hy)
      split <;> omega
    · have hrest := ih hl
      by_cases hf : f x = true
      · rw [if_pos hf, if_pos (h x hxa hf)]
        omega
      · rw [if_neg hf]
        omega

/-- A fold by two operations that agree at the elements of the list. -/
theorem foldl_congr_of_mem {α β : Type} {f g : β → α → β} {l : List α} (h : ∀ x, ∀ a ∈ l, f x a = g x a) (x : β) :
    l.foldl f x = l.foldl g x := by
  induction l generalizing x with
  | nil => rfl
  | cons a l ih =>
    rw [List.foldl_cons, List.foldl_cons, h x a List.mem_cons_self]
    exact ih (fun x b hb => h x b (List.mem_cons_of_mem _ hb)) _

end Sys2Proof.Machine
end

section
/-! SUPPORT. Every operation of the part as a chain of moves that keeps the listener index sound: said once for each
operation, in the order of the model, so that the invariants follow from what one move does. -/

namespace Sys2Proof.Machine

/-! ## Chains of moves, with the listener index -/

/-- A chain of moves in which, unless the queue is `tidy`, the sweeps of a trunk may also be replaced by one sweep: with
two sweeps for a trunk the count of units (R85 (1)) would change the kind of one of them, which no move does. -/
inductive State.Chain (strict load tidy : Prop) : State → State → Prop where
  | moves {s t : State} (h : Moves strict load s t) : Chain strict load tidy s t
  | recount (s : State) (sw : Sweep) (h : ¬ tidy) : Chain strict load tidy s (s.setSweep sw)
  | trans {s t u : State} (h : Chain strict load tidy s t) (k : Chain strict load tidy t u) : Chain strict load tidy s u

/-- A tidy chain is a chain of moves. -/
theorem State.Chain.toMoves {strict load tidy : Prop} {s t : State} (h : s.Chain strict load tidy t) (htidy : tidy) :
    Moves strict load s t := by
  induction h with
  | moves h => exact h
  | recount s sw h => exact absurd htidy h
  | trans _ _ ih ik => exact ih.trans ik

/-- A property that every move keeps, and that does not read the queue, is kept by a chain. -/
theorem State.Chain.keeps {strict load tidy : Prop} {s t : State} {P : State → Prop} (h : s.Chain strict load tidy t)
    (hmove : ∀ a b, Move strict load a b → P a → P b) (hsweeps : ∀ (a : State) (sw : Sweep), P a → P (a.setSweep sw))
    (hs : P s) : P t := by
  induction h with
  | moves h => exact h.keeps hmove hs
  | recount s sw => exact hsweeps s sw hs
  | trans _ _ ih ik => exact ik (ih hs)

/-- `t` comes from `s` by a chain of moves, and the listener index of `t` is sound when that of `s` is. -/
structure State.Reaches (strict load tidy : Prop) (s t : State) : Prop where
  chain : s.Chain strict load tidy t
  index : strict → s.indexSound → t.indexSound

/-- The index is sound when its links are some of those of a sound one, each on a followed record. -/
theorem State.indexSound.sublist {s t : State} (hs : s.indexSound) (hsub : t.links.Sublist s.links)
    (hfollowed : ∀ l ∈ t.links, (t.phase l.talker.port).indexActive = true ∧
      (t.trunk l.talker.port).indexLost = false) : t.indexSound := by
  obtain ⟨hlen, hnodup, -⟩ := hs
  exact ⟨Nat.le_trans hsub.length_le hlen, hnodup.sublist (hsub.map _), hfollowed⟩

/-- The index is sound when the links of the only record that changed are gone. -/
theorem State.indexSound.without {s t : State} (hs : s.indexSound) (p : Port)
    (hlinks : t.links = s.links.filter (fun l => l.talker.port != p))
    (htrunk : ∀ q ≠ p, t.trunk q = s.trunk q) : t.indexSound := by
  refine hs.sublist (hlinks ▸ List.filter_sublist) fun l hl => ?_
  obtain ⟨hmem, hne⟩ := List.mem_filter.mp (hlinks ▸ hl)
  rw [State.phase, htrunk _ (by simpa using hne)]
  exact hs.2.2 l hmem

/-- The index is sound when the only record that changed is followed if it was. -/
theorem State.indexSound.record {s t : State} (hs : s.indexSound) (p : Port) (hlinks : t.links = s.links)
    (htrunk : ∀ q ≠ p, t.trunk q = s.trunk q)
    (hp : (s.phase p).indexActive = true → (t.phase p).indexActive = true ∧
      ((s.trunk p).indexLost = false → (t.trunk p).indexLost = false)) : t.indexSound := by
  refine hs.sublist (hlinks ▸ List.Sublist.refl _) fun l hl => ?_
  obtain ⟨hactive, hlost⟩ := hs.2.2 l (hlinks ▸ hl)
  by_cases hq : l.talker.port = p
  · rw [hq] at hactive hlost ⊢
    exact ⟨(hp hactive).1, (hp hactive).2 hlost⟩
  · rw [State.phase, htrunk _ hq]
    exact ⟨hactive, hlost⟩

namespace State.Reaches

variable {strict load tidy : Prop} {s t u : State}

theorem refl (s : State) : State.Reaches strict load tidy s s := ⟨.moves (.refl s), fun _ h => h⟩

theorem trans (h : s.Reaches strict load tidy t) (k : t.Reaches strict load tidy u) : s.Reaches strict load tidy u :=
  ⟨h.chain.trans k.chain, fun hs hi => k.index hs (h.index hs hi)⟩

/-- A fold of operations that are chains of moves is one. -/
theorem foldl {α : Type} (f : State → α → State) (h : ∀ (s : State) a, s.Reaches strict load tidy (f s a)) (l : List α)
    (s : State) : s.Reaches strict load tidy (l.foldl f s) := by
  induction l generalizing s with
  | nil => exact .refl s
  | cons a rest ih => exact (h s a).trans (ih _)

/-- A move that leaves the records and the links. -/
theorem ofMove (m : Move strict load s t) (htrunks : t.trunks = s.trunks) (hlinks : t.links = s.links) :
    s.Reaches strict load tidy t :=
  ⟨.moves (.one m), fun _ hi => hi.record 0 hlinks (fun q _ => State.trunk_congr htrunks q) fun h => by
    rw [State.phase, State.trunk_congr htrunks]; exact ⟨h, id⟩⟩

/-- A state with the same tables and the same links. -/
theorem same (h : s.SameTables t) (hlinks : t.links = s.links) : s.Reaches strict load tidy t :=
  .ofMove (.same h) h.trunks hlinks

/-- A state with the same tables and fewer links. -/
theorem fewerLinks (h : s.SameTables t) (hlinks : t.links.Sublist s.links) : s.Reaches strict load tidy t :=
  ⟨.moves (.same h), fun _ hi => hi.sublist hlinks fun l hl => by
    rw [State.phase, State.trunk_congr h.trunks]; exact hi.2.2 l (hlinks.subset hl)⟩

/-- Items that no invariant reads: the timing unit, the peer link but for its views, the channel, what is due, the
free values, the read data, the first fault and the hold flag. -/
theorem quiet (s : State) {timing : Timing} {link : PeerLink} {channel : Channel} {due : List Due} {draws : Nat}
    {data : Word} {first : Option FirstFault} {hold : Bool} (hviews : link.views = s.link.views) :
    s.Reaches strict load tidy
      { s with timing := timing, link := link, channel := channel, due := due, draws := draws,
               port := { s.port with readData := data },
               faults := { s.faults with first := first, hold := hold } } :=
  .same ⟨rfl, rfl, rfl, rfl, rfl, rfl, rfl, rfl, fun p => by simp only [State.view, hviews], rfl, rfl, rfl⟩ rfl

/-- Cursors and counts of units of the sweeps change. -/
theorem sweeps (s : State) (f : Sweep → Sweep)
    (hf : ∀ sw, (f sw).kind = sw.kind ∧ (f sw).trunk = sw.trunk) :
    s.Reaches strict load tidy { s with sweeps := s.sweeps.map f } := by
  refine .same ⟨rfl, rfl, rfl, rfl, rfl, rfl, rfl, ?_, fun _ => rfl, rfl, rfl, rfl⟩ rfl
  simp only [List.map_map, Function.comp_def, hf]

/-- A move that changes one record to a followed one, and no link. -/
theorem ofRecordMove (p : Port) (m : Move strict load s t) (hlinks : t.links = s.links)
    (htrunk : ∀ q ≠ p, t.trunk q = s.trunk q)
    (hp : (s.phase p).indexActive = true → (t.phase p).indexActive = true ∧
      ((s.trunk p).indexLost = false → (t.trunk p).indexLost = false)) : s.Reaches strict load tidy t :=
  ⟨.moves (.one m), fun _ hi => hi.record p hlinks htrunk hp⟩

end State.Reaches

/-! ## Changes of one record -/

theorem TrunkRecord.Alike.refl_binding (o : Option Binding) :
    (o = none ∧ o = none) ∨ ∃ x y, o = some x ∧ o = some y ∧ Binding.like x y := by
  cases o with
  | none => exact .inl ⟨rfl, rfl⟩
  | some b => exact .inr ⟨b, b, rfl, rfl, rfl, rfl, rfl, rfl, rfl⟩

/-- A record that keeps its phase and binding, its commit flag, lock and lingering. -/
theorem TrunkRecord.Alike.ofEq {a b : TrunkRecord} (hphase : b.phase = a.phase) (hbinding : b.binding = a.binding)
    (hcommit : b.commit = a.commit) (hlock : b.lock = a.lock) (hlingering : b.lingering = a.lingering) :
    a.Alike b :=
  ⟨hphase, hbinding ▸ TrunkRecord.Alike.refl_binding _, fun h => .inl (hcommit ▸ h), fun h => .inl (hlock ▸ h), hlingering⟩

theorem TrunkRecord.Keeps.ofEq {a b : TrunkRecord} (hbinding : b.binding = a.binding) (hcommit : b.commit = a.commit)
    (hlock : b.lock = a.lock) (hlingering : b.lingering = a.lingering) : a.Keeps b :=
  ⟨hbinding, hcommit, hlock, hlingering⟩

variable {strict load tidy : Prop}

/-- A record replaced by one alike, its index-lost flag not set. -/
theorem State.reaches_setTrunk {s : State} (p : Port) {r : TrunkRecord} (h : (s.trunk p).Alike r)
    (hlost : (s.trunk p).indexLost = false → r.indexLost = false) : s.Reaches strict load tidy (s.setTrunk p r) :=
  .ofRecordMove p (.record s p r h) rfl (fun _ hq => s.trunk_setTrunk_ne r hq) fun hactive => by
    rw [State.phase, State.trunk_setTrunk_self, h.phase]; exact ⟨hactive, hlost⟩

theorem State.reaches_reportChange (s : State) : s.Reaches strict load tidy s.reportChange := .quiet s rfl

theorem State.reaches_changeTrunk {s : State} (p : Port) {r : TrunkRecord} (h : (s.trunk p).Alike r)
    (hlost : (s.trunk p).indexLost = false → r.indexLost = false) : s.Reaches strict load tidy (s.changeTrunk p r) :=
  (State.reaches_setTrunk p h hlost).trans (State.reaches_reportChange _)

/-! ## The fault collector -/

theorem State.reaches_recordOccurrence (s : State) (src : FaultSource) (o : Option Port) :
    s.Reaches strict load tidy (s.recordOccurrence src o) :=
  .ofMove (.occurrence s src o) (State.recordOccurrence_trunks ..) (State.recordOccurrence_links ..)

/-! ## The store and the listener index (R63 to R73) -/

theorem State.reaches_writeWord (s : State) (x : Physical) (w : Word) : s.Reaches strict load tidy (s.writeWord x w) :=
  .ofMove (.write s x w) rfl rfl

theorem State.cursorAfterRemoval_kind_trunk (s : State) (t : Talker) (x : Physical) (sw : Sweep) :
    (s.cursorAfterRemoval t x sw).kind = sw.kind ∧ (s.cursorAfterRemoval t x sw).trunk = sw.trunk := by
  have h := s.cursorAfterRemoval_seen t x sw
  simp only [Sweep.seen, Prod.mk.injEq] at h
  exact ⟨h.1, h.2.1⟩

theorem State.reaches_removeLink (s : State) (l : Link) : s.Reaches strict load tidy (s.removeLink l) :=
  (State.Reaches.sweeps s _ (s.cursorAfterRemoval_kind_trunk l.talker l.listener)).trans
    (.fewerLinks ⟨rfl, rfl, rfl, rfl, rfl, rfl, rfl, rfl, fun _ => rfl, rfl, rfl, rfl⟩ List.filter_sublist)

theorem State.reaches_freeLinks (s : State) (p : Port) : s.Reaches strict load tidy (s.freeLinks p) :=
  .fewerLinks ⟨rfl, rfl, rfl, rfl, rfl, rfl, rfl, rfl, fun _ => rfl, rfl, rfl, rfl⟩ List.filter_sublist

theorem State.reaches_clearIndex (s : State) (p : Port) : s.Reaches strict load tidy (s.clearIndex p) :=
  (s.reaches_freeLinks p).trans
    (State.reaches_setTrunk p (TrunkRecord.Alike.ofEq rfl rfl rfl rfl rfl) fun _ => rfl)

/-- An overflow sets the index-lost flag of a record whose links it frees (R67). -/
theorem State.reaches_overflow (s : State) (p : Port) : s.Reaches strict load tidy (s.overflow p).1 := by
  refine State.Reaches.trans (t := (s.setIndexLost p true).freeLinks p) ⟨?_, fun _ hi => ?_⟩
    (State.reaches_recordOccurrence _ _ _)
  · exact .moves <| .tail (.one (.record s p { s.trunk p with indexLost := true } (.ofEq rfl rfl rfl rfl rfl)))
      (.same ⟨rfl, rfl, rfl, rfl, rfl, rfl, rfl, rfl, fun _ => rfl, rfl, rfl, rfl⟩)
  · exact hi.without p rfl fun q hq => s.trunk_setTrunk_ne _ hq

theorem State.linkAt_eq_none_iff (s : State) (x : Physical) :
    s.linkAt x = none ↔ x ∉ s.links.map Link.listener := by
  simp [State.linkAt]

/-- A link is added for a followed talker and a word that has none (R61, R64). -/
theorem State.reaches_addLink {s : State} (t : Talker) (x : Physical) (hfollowed : s.followed t.port = true)
    (hnew : s.linkAt x = none) : s.Reaches strict load tidy (s.addLink t x).1 := by
  unfold State.addLink
  split
  · rename_i hfree
    refine ⟨.moves (.same ⟨rfl, rfl, rfl, rfl, rfl, rfl, rfl, rfl, fun _ => rfl, rfl, rfl, rfl⟩), fun _ hi => ?_⟩
    obtain ⟨-, hnodup, hlinks⟩ := hi
    rw [State.linkAt_eq_none_iff] at hnew
    simp only [State.followed, Bool.and_eq_true, Bool.not_eq_true'] at hfollowed
    refine ⟨?_, ?_, fun l hl => ?_⟩
    · rw [List.length_append]; exact hfree
    · simpa [List.nodup_append, hnodup] using fun y hy => fun e => hnew (List.mem_map.mpr ⟨y, hy, e⟩)
    · rcases List.mem_append.mp hl with hl | hl
      · exact hlinks l hl
      · rw [List.mem_singleton.mp hl]; exact hfollowed
  · exact s.reaches_overflow t.port

theorem State.followed_of_namedTalker {s : State} {w : Word} {t : Talker} (h : s.namedTalker w = some t) :
    s.followed t.port = true := by
  unfold State.namedTalker at h
  split at h
  · split at h
    · split at h
      · obtain rfl := Option.some.inj h; assumption
      · contradiction
    · contradiction
  · contradiction

theorem State.linkAt_removeLink {s : State} {x : Physical} {l : Link} (h : s.linkAt x = some l) :
    (s.removeLink l).linkAt x = none := by
  have hl : l.listener = x := by simpa using List.find?_some h
  subst hl
  simp [State.linkAt]

theorem State.reaches_observe (s : State) (x : Physical) (w : Word) : s.Reaches strict load tidy (s.observe x w).1 := by
  unfold State.observe
  split
  · exact .refl s
  · rename_i t hnone htalker
    exact State.reaches_addLink t x (State.followed_of_namedTalker htalker) hnone
  · exact s.reaches_removeLink _
  · rename_i l t hl htalker
    split
    · exact .refl s
    · exact (s.reaches_removeLink l).trans (State.reaches_addLink t x
        (State.followed_of_namedTalker htalker :) (State.linkAt_removeLink hl))

theorem State.reaches_censusRead (s : State) (p : Port) (x : Physical) (w : Word) :
    s.Reaches strict load tidy (s.censusRead p x w).1 := by
  unfold State.censusRead
  split
  · exact .refl s
  · split
    · rename_i t htalker hnone
      split
      · exact State.reaches_addLink t x (State.followed_of_namedTalker htalker) hnone
      · exact .refl s
    · exact .refl s

/-! ## The sweep engine (R79) -/

theorem State.begun_kind_trunk (s : State) (sw : Sweep) :
    (s.begun sw).kind = sw.kind ∧ (s.begun sw).trunk = sw.trunk := by
  have h := s.begun_seen sw
  simp only [Sweep.seen, Prod.mk.injEq] at h
  exact ⟨h.1, h.2.1⟩

theorem State.advanced_kind_trunk (s : State) (sw : Sweep) :
    (s.advanced sw).kind = sw.kind ∧ (s.advanced sw).trunk = sw.trunk := by
  have h := s.advanced_seen sw
  simp only [Sweep.seen, Prod.mk.injEq] at h
  exact ⟨h.1, h.2.1⟩

theorem State.reaches_engine (s : State) : s.Reaches strict load tidy s.engine := by
  unfold State.engine
  split
  · refine State.Reaches.sweeps s _ fun old => ?_
    split
    · rename_i h; rw [h]; exact s.begun_kind_trunk _
    · exact ⟨rfl, rfl⟩
  · exact .refl s

end Sys2Proof.Machine
end

section
/-! SUPPORT. What one move does to the sweep queue (R79): a trunk keeps at most one sweep, one that fits its record, and
class A stays before class B. -/

namespace Sys2Proof.Machine

/-! ## The queue as kinds and trunks -/

/-- `State.sweepsSound` of a queue given by kinds and trunks alone. -/
def queueFits (q : List (SweepKind × Port)) (record : Port → TrunkRecord) : Prop :=
  (q.map Prod.snd).Nodup ∧ (∀ e ∈ q, e.1.fits (record e.2)) ∧
    q.Pairwise (fun a b => b.1.classA = true → a.1.classA = true)

/-- The kinds and trunks of the sweep queue. -/
def State.kinds (s : State) : List (SweepKind × Port) := s.sweeps.map (fun sw => (sw.kind, sw.trunk))

theorem State.sweepsSound_iff (s : State) : s.sweepsSound ↔ queueFits s.kinds s.trunk := by
  simp [State.sweepsSound, queueFits, State.kinds, List.pairwise_map, Function.comp_def]

theorem State.hasSweep_eq_false_iff (s : State) (p : Port) :
    s.hasSweep p = false ↔ ∀ e ∈ s.kinds, e.2 ≠ p := by
  simp [State.hasSweep, State.sweepOf, State.kinds]

theorem queueFits.record {q : List (SweepKind × Port)} {f g : Port → TrunkRecord} (h : queueFits q f) (p : Port)
    (hne : ∀ r ≠ p, g r = f r) (hp : ∀ e ∈ q, e.2 = p → e.1.fits (g p)) : queueFits q g := by
  refine ⟨h.1, fun e he => ?_, h.2.2⟩
  by_cases hep : e.2 = p
  · rw [hep]; exact hp e he hep
  · rw [hne _ hep]; exact h.2.1 e he

theorem queueFits.sublist {q r : List (SweepKind × Port)} {f : Port → TrunkRecord} (h : queueFits q f)
    (hsub : r.Sublist q) : queueFits r f :=
  ⟨h.1.sublist (hsub.map _), fun e he => h.2.1 e (hsub.subset he), h.2.2.sublist hsub⟩

/-- The queue of kinds with a new sweep at the end of its class (R81). -/
def kindsJoined (q : List (SweepKind × Port)) (kind : SweepKind) (p : Port) : List (SweepKind × Port) :=
  let a := q.filter (fun e => e.1.classA)
  let b := q.filter (fun e => !e.1.classA)
  if kind.classA then a ++ (kind, p) :: b else a ++ (b ++ [(kind, p)])

theorem State.kinds_queueSweep (s : State) (kind : SweepKind) (p : Port) :
    (s.queueSweep kind p).kinds = kindsJoined s.kinds kind p := by
  cases kind <;>
    simp [State.queueSweep, State.kinds, kindsJoined, List.filter_map, Function.comp_def, newSweep, SweepKind.classA]

theorem kindsJoined_perm (q : List (SweepKind × Port)) (kind : SweepKind) (p : Port) :
    (kindsJoined q kind p).Perm ((kind, p) :: q) := by
  have hsplit := List.filter_append_perm (fun e : SweepKind × Port => e.1.classA) q
  unfold kindsJoined
  split
  · exact List.perm_middle.trans (hsplit.cons _)
  · rw [← List.append_assoc]
    exact (List.perm_append_singleton _ _).trans (hsplit.cons _)

theorem kindsJoined_pairwise (q : List (SweepKind × Port)) (kind : SweepKind) (p : Port) :
    (kindsJoined q kind p).Pairwise (fun a b => b.1.classA = true → a.1.classA = true) := by
  have hjoin {a b : List (SweepKind × Port)} (ha : ∀ e ∈ a, e.1.classA = true) (hb : ∀ e ∈ b, e.1.classA = false) :
      (a ++ b).Pairwise (fun a b => b.1.classA = true → a.1.classA = true) := by
    refine List.pairwise_append.mpr ⟨?_, ?_, fun x hx _ _ _ => ha x hx⟩
    · exact List.pairwise_of_forall_mem_list fun x hx _ _ _ => ha x hx
    · exact List.pairwise_of_forall_mem_list fun _ _ y hy h => absurd h (by simp [hb y hy])
  have hA : ∀ e ∈ q.filter (fun e => e.1.classA), e.1.classA = true := fun e he => (List.mem_filter.mp he).2
  have hB : ∀ e ∈ q.filter (fun e => !e.1.classA), e.1.classA = false := fun e he => by
    simpa using (List.mem_filter.mp he).2
  unfold kindsJoined
  split
  · rename_i h
    rw [List.append_cons]
    refine hjoin (fun e he => ?_) hB
    rcases List.mem_append.mp he with he | he
    · exact hA e he
    · rw [List.mem_singleton.mp he]; exact h
  · rename_i h
    refine hjoin hA fun e he => ?_
    rcases List.mem_append.mp he with he | he
    · exact hB e he
    · rw [List.mem_singleton.mp he]; simpa using h

theorem queueFits.join {q : List (SweepKind × Port)} {f g : Port → TrunkRecord} (h : queueFits q f) {kind : SweepKind}
    {p : Port} (hp : ∀ e ∈ q, e.2 ≠ p) (hne : ∀ r ≠ p, g r = f r) (hfit : kind.fits (g p)) :
    queueFits (kindsJoined q kind p) g := by
  have hperm := kindsJoined_perm q kind p
  refine ⟨?_, fun e he => ?_, kindsJoined_pairwise q kind p⟩
  · rw [(hperm.map Prod.snd).nodup_iff]
    exact List.nodup_cons.mpr ⟨fun hm => by obtain ⟨e, he, rfl⟩ := List.mem_map.mp hm; exact hp e he rfl, h.1⟩
  · rcases List.mem_cons.mp (hperm.subset he) with rfl | he
    · exact hfit
    · rw [hne _ (hp e he)]; exact h.2.1 e he

/-! ## Moves -/

theorem State.phase_setTrunk (s : State) (p q : Port) (r : TrunkRecord) :
    (s.setTrunk p r).phase q = if q = p then r.phase else s.phase q := by
  rw [State.phase, State.trunk_setTrunk]; split <;> rfl

theorem TrunkRecord.preparedBound_iff (r : TrunkRecord) :
    r.preparedBound = true ↔ r.phase = .bound ∧ ∃ b, r.binding = some b ∧ b.prepared = true := by
  unfold TrunkRecord.preparedBound
  cases r.binding <;> simp

theorem State.kinds_removeSweep (s : State) (p : Port) :
    (s.removeSweep p).kinds = s.kinds.filter (fun e => e.2 != p) := by
  simp [State.removeSweep, State.kinds, List.filter_map, Function.comp_def]

theorem State.kinds_replaceRoll (s : State) (p : Port) :
    (s.replaceRoll p).kinds = s.kinds.map (fun e => if e.2 = p ∧ e.1 = .roll then (.unroll, p) else e) := by
  simp only [State.replaceRoll, State.kinds, List.map_map]
  refine List.map_congr_left fun sw _ => ?_
  by_cases h : sw.trunk = p ∧ sw.kind = .roll <;> simp [h, newSweep]

/-- A trunk whose record fits no kind has no sweep. -/
theorem queueFits.none {q : List (SweepKind × Port)} {f : Port → TrunkRecord} (h : queueFits q f) {p : Port}
    (hp : ∀ kind : SweepKind, ¬ kind.fits (f p)) : ∀ e ∈ q, e.2 ≠ p :=
  fun e he hep => hp e.1 (hep ▸ h.2.1 e he)

/-- The phases in which a record has no sweep. -/
def Phase.restful : Phase → Bool
  | .free | .armed | .rolled | .migrated => true
  | _ => false

theorem SweepKind.not_fits_of_restful {r : TrunkRecord} (h : r.phase.restful = true) (kind : SweepKind) :
    ¬ kind.fits r := by
  intro hfit
  cases kind <;> simp only [SweepKind.fits] at hfit
  case prepare => rw [hfit.1] at h; contradiction
  case census => rcases hfit with e | e | e <;> rw [e] at h <;> contradiction
  all_goals rw [hfit] at h; contradiction

/-- What fits a record depends on its phase and its binding's prepared flag. -/
theorem SweepKind.fits_congr {r r' : TrunkRecord} (hphase : r'.phase = r.phase)
    (hbinding : ∀ b', r'.binding = some b' → ∃ b, r.binding = some b ∧ b'.prepared = b.prepared) {kind : SweepKind}
    (h : kind.fits r) : kind.fits r' := by
  cases kind <;> simp only [SweepKind.fits, hphase] at h ⊢
  case prepare =>
    refine ⟨h.1, fun b' hb' => ?_⟩
    obtain ⟨b, hb, he⟩ := hbinding b' hb'
    rw [he]; exact h.2 b hb
  all_goals exact h

/-- A trunk without a sweep may change its record in any way. -/
theorem queueFits.unswept {q : List (SweepKind × Port)} {f g : Port → TrunkRecord} (h : queueFits q f) (p : Port)
    (hp : ∀ e ∈ q, e.2 ≠ p) (hne : ∀ r ≠ p, g r = f r) : queueFits q g :=
  h.record p hne fun e he hep => absurd hep (hp e he)

/-- A ROLL replaced in its place by an UNROLL, with its record (R84, R146). -/
theorem queueFits.unrolled {q : List (SweepKind × Port)} {f g : Port → TrunkRecord} (h : queueFits q f) {p : Port}
    (hrolling : (f p).phase = .rolling) (hunrolling : (g p).phase = .unrolling) (hne : ∀ r ≠ p, g r = f r) :
    queueFits (q.map (fun e => if e.2 = p ∧ e.1 = .roll then (.unroll, p) else e)) g := by
  have hroll : ∀ e ∈ q, e.2 = p → e.1 = .roll := by
    rintro ⟨kind, r⟩ he rfl
    have hfit := h.2.1 _ he
    cases kind <;> simp [SweepKind.fits, hrolling] at hfit ⊢
  have hclass : ∀ e : SweepKind × Port,
      (if e.2 = p ∧ e.1 = .roll then (SweepKind.unroll, p) else e).1.classA = e.1.classA := by
    intro e; split
    · rename_i he; rw [he.2]; rfl
    · rfl
  refine ⟨?_, fun e he => ?_, ?_⟩
  · have : (Prod.snd ∘ fun e : SweepKind × Port => if e.2 = p ∧ e.1 = .roll then (SweepKind.unroll, p) else e)
        = Prod.snd := by
      funext e; simp only [Function.comp]; split
      · rename_i he; exact he.1.symm
      · rfl
    rw [List.map_map, this]; exact h.1
  · obtain ⟨e, hmem, rfl⟩ := List.mem_map.mp he
    split
    · exact hunrolling
    · rename_i hn
      have hep : e.2 ≠ p := fun hp => hn ⟨hp, hroll e hmem hp⟩
      rw [hne _ hep]; exact h.2.1 e hmem
  · rw [List.pairwise_map]
    simpa only [hclass] using h.2.2

/-- A move keeps the queue sound, where the load installs records on a table that is all FREE. -/
theorem Move.sweepsSound {strict load : Prop} {s t : State} (m : Move strict load s t) (hload : load → strict)
    (hs : s.sweepsSound) : t.sweepsSound := by
  rw [State.sweepsSound_iff] at hs ⊢
  have rest {p : Port} {phase : Phase} (h : s.phase p = phase) (hr : phase.restful = true) : ∀ e ∈ s.kinds, e.2 ≠ p :=
    hs.none (SweepKind.not_fits_of_restful (by rw [← hr, ← h]; rfl))
  have fits {p : Port} {r : TrunkRecord} {kind : SweepKind} (h : kind.fits r) : kind.fits ((s.setTrunk p r).trunk p) := by
    rw [State.trunk_setTrunk_self]; exact h
  have others (p : Port) (r : TrunkRecord) : ∀ q ≠ p, (s.setTrunk p r).trunk q = s.trunk q :=
    fun q hq => s.trunk_setTrunk_ne r hq
  cases m with
  | same h =>
    have hk : t.kinds = s.kinds := h.sweeps
    have ht : t.trunk = s.trunk := funext (State.trunk_congr h.trunks)
    rw [hk, ht]; exact hs
  | occurrence src o =>
    have hk : (s.recordOccurrence src o).kinds = s.kinds := by rw [State.kinds, State.recordOccurrence_sweeps]; rfl
    have ht : (s.recordOccurrence src o).trunk = s.trunk :=
      funext (State.trunk_congr (State.recordOccurrence_trunks ..))
    rw [hk, ht]; exact hs
  | cycle | arbiter | write | source | image => exact hs
  | record p r h =>
    refine hs.record p (others p r) fun e he hep => ?_
    rw [State.trunk_setTrunk_self]
    refine SweepKind.fits_congr h.phase (fun b' hb' => ?_) (hep ▸ hs.2.1 e he)
    rcases h.binding with ⟨-, hnone⟩ | ⟨x, y, hx, hy, hlike⟩
    · rw [hnone] at hb'; contradiction
    · obtain rfl := Option.some.inj (hy.symm.trans hb')
      exact ⟨x, hx, hlike.2.2.2.2⟩
  | bind p b hp _ _ _ _ hb =>
    rw [State.kinds_queueSweep]
    exact hs.join (rest hp rfl) (others p _) (fits ⟨rfl, fun b' hb' => Option.some.inj hb' ▸ hb⟩)
  | free p hp =>
    have hk : (s.freeRecord p).kinds = s.kinds.filter (fun e => e.2 != p) := by
      unfold State.freeRecord; rw [State.kinds_removeSweep]; split <;> rfl
    have ht : ∀ q ≠ p, (s.freeRecord p).trunk q = s.trunk q := by
      unfold State.freeRecord; split <;> exact others p _
    rw [hk]
    exact (hs.sublist List.filter_sublist).unswept p (fun e he => by simpa using (List.mem_filter.mp he).2) ht
  | start p hp _ =>
    have hk : (s.startRecord p).kinds = kindsJoined s.kinds .census p := by
      rw [← State.kinds_queueSweep]
      unfold State.startRecord State.joinAnnounced
      split <;> rfl
    have ht : (s.startRecord p).trunk = (s.setTrunk p { s.trunk p with phase := .census }).trunk := by
      unfold State.startRecord State.joinAnnounced; split <;> rfl
    rw [hk, ht]
    obtain ⟨hbound, b, hb, hprepared⟩ := (TrunkRecord.preparedBound_iff _).mp hp
    refine hs.join (hs.none fun kind hfit => ?_) (others p _) (fits (.inl rfl))
    cases kind <;> simp [SweepKind.fits, hbound, hb, hprepared] at hfit
  | census p hp h =>
    rw [State.kinds_queueSweep]
    exact hs.join ((s.hasSweep_eq_false_iff p).mp h) (fun _ _ => rfl) (.inr hp)
  | bridge p r hp h hr hk =>
    rw [State.kinds_queueSweep]
    exact hs.join ((s.hasSweep_eq_false_iff p).mp h) (others p r) (fits hr)
  | arm p r hp h => exact hs.unswept p ((s.hasSweep_eq_false_iff p).mp h) (others p r)
  | disarm p r hp => exact hs.unswept p (rest hp rfl) (others p r)
  | roll p r hp hr =>
    rw [State.kinds_queueSweep]
    exact hs.join (rest hp rfl) (others p r) (fits hr)
  | release p r hp hr =>
    rw [State.kinds_queueSweep]
    exact hs.join (rest hp rfl) (others p r) (fits hr)
  | unrollRolling p r hp hr =>
    rw [State.kinds_replaceRoll]
    exact hs.unrolled hp (fits (kind := .unroll) hr) (others p r)
  | unrollRolled p r hp _ hr =>
    rw [State.kinds_queueSweep]
    exact hs.join (rest hp rfl) (others p r) (fits hr)
  | unbridge p r _ h hr =>
    rw [State.kinds_queueSweep]
    exact hs.join ((s.hasSweep_eq_false_iff p).mp h) (others p r) (fits hr)
  | unrolledToUnbridge p r _ h hr =>
    rw [State.kinds_queueSweep]
    exact hs.join ((s.hasSweep_eq_false_iff p).mp h) (others p r) (fits hr)
  | dropSweep p => rw [State.kinds_removeSweep]; exact hs.sublist List.filter_sublist
  | prepared p h => exact hs.unswept p ((s.hasSweep_eq_false_iff p).mp h) (others p _)
  | onward p r h => exact hs.unswept p ((s.hasSweep_eq_false_iff p).mp h) (others p r)
  | rolled p r h => exact hs.unswept p ((s.hasSweep_eq_false_iff p).mp h) (others p r)
  | migrated p r h => exact hs.unswept p ((s.hasSweep_eq_false_iff p).mp h) (others p r)
  | bound p r h => exact hs.unswept p ((s.hasSweep_eq_false_iff p).mp h) (others p r)
  | unlinger p hp => exact hs.unswept p (rest hp rfl) (others p _)
  | install p c F m hl hi hf => exact hs.unswept p (rest (hf (hload hl)) rfl) (others p _)

end Sys2Proof.Machine
end

section
/-! SUPPORT. Store units, fallback, completions and the end of an event as chains of moves. -/

namespace Sys2Proof.Machine

/-! ## What a row starts from -/

/-- The premises under which a row is a chain of moves: the load leaves the table alone where `strict`, the queue is
sound where it must stay `tidy`. -/
structure State.Premises (strict tidy : Prop) (s : State) : Prop where
  load  : strict → s.loadSound
  queue : tidy → s.sweepsSound

variable {strict load tidy : Prop} {s t : State}

theorem State.loadSound_setSweep {s : State} (sw : Sweep) (h : s.loadSound) : (s.setSweep sw).loadSound := by
  intro hl
  obtain ⟨h1, h2, h3, h4, h5⟩ := h hl
  exact ⟨h1, by rw [State.setSweep_sweeps, h2]; rfl, h3, h4, h5⟩

theorem State.Chain.notLoading (h : s.Chain strict load tidy t) (hs : s.image.state ≠ .loading) :
    t.image.state ≠ .loading :=
  h.keeps (P := fun s => s.image.state ≠ .loading) (fun _ _ m => (Moves.one m).notLoading) (fun _ _ h => h) hs

/-- Without an installing, a row leaves the premises of the next. -/
theorem State.Reaches.premises (h : s.Reaches strict False tidy t) (hs : s.Premises strict tidy) :
    t.Premises strict tidy := by
  refine ⟨fun hstrict => ?_, fun htidy => ?_⟩
  · obtain rfl := eq_true hstrict
    exact h.chain.keeps (P := State.loadSound) (fun _ _ m => (Moves.one m).loadSound)
      (fun _ sw => State.loadSound_setSweep sw) (hs.load trivial)
  · exact (h.chain.toMoves htidy).keeps (P := State.sweepsSound) (fun _ _ m => m.sweepsSound False.elim)
      (hs.queue htidy)

theorem State.Reaches.notLoading (h : s.Reaches strict load tidy t) (hs : strict → s.image.state ≠ .loading) :
    strict → t.image.state ≠ .loading :=
  fun hstrict => h.chain.notLoading (hs hstrict)

/-! ## Moves that change one record's phase -/

/-- A move that replaces record `p` by `r`, of a phase that keeps the links of `p`. -/
theorem State.Reaches.ofPhaseMove (p : Port) (r : TrunkRecord) (m : Move strict load s t)
    (htrunks : t.trunks = (s.setTrunk p r).trunks) (hlinks : t.links = s.links)
    (hkept : (s.phase p).indexActive = true → r.phase.indexActive = true ∧ r.indexLost = (s.trunk p).indexLost) :
    s.Reaches strict load tidy t := by
  have htrunk (q : Port) : t.trunk q = (s.setTrunk p r).trunk q := State.trunk_congr htrunks q
  refine .ofRecordMove p m hlinks (fun q hq => (htrunk q).trans (s.trunk_setTrunk_ne r hq)) fun h => ?_
  obtain ⟨hactive, hlost⟩ := hkept h
  rw [State.phase, htrunk, State.trunk_setTrunk_self, hlost]
  exact ⟨hactive, id⟩

/-! ## Fallback (R143 to R146, R151, R154, R185) -/

theorem State.reaches_returnFromArmed {p : Port} (h : s.phase p = .armed) :
    s.Reaches strict load tidy (s.returnFromArmed p) :=
  (State.Reaches.ofPhaseMove p _ (.disarm s p
      { s.trunk p with phase := .bridged, epoch := none } h rfl ⟨rfl, rfl, rfl, rfl⟩) rfl rfl fun _ => ⟨rfl, rfl⟩).trans
    (State.reaches_reportChange _)

theorem State.reaches_disarmRecord {p : Port} (h : s.phase p = .armed) :
    s.Reaches strict load tidy (s.disarmRecord p) :=
  (State.Reaches.ofPhaseMove p _ (.disarm s p
      { s.trunk p with phase := .bridged, epoch := none, rollRequest := none } h rfl ⟨rfl, rfl, rfl, rfl⟩) rfl rfl fun _ => ⟨rfl, rfl⟩).trans
    (State.reaches_reportChange _)

theorem State.reaches_fallFromArmed {p : Port} (h : s.phase p = .armed) :
    s.Reaches strict load tidy (s.fallFromArmed p) :=
  (State.Reaches.ofPhaseMove p _ (.disarm s p
      { s.trunk p with phase := .bridged, epoch := none, rollRequest := none, autoLead := none } h rfl ⟨rfl, rfl, rfl, rfl⟩) rfl rfl fun _ => ⟨rfl, rfl⟩).trans
    (State.reaches_reportChange _)

theorem State.reaches_enterUnrolling {p : Port} (undo : UndoTarget) (auto : Option Nat)
    (h : s.phase p = .rolling ∨ s.phase p = .rolled ∧ (s.trunk p).commit = false) :
    s.Reaches strict load tidy (s.enterUnrolling p undo auto) := by
  unfold State.enterUnrolling
  split
  · rename_i hrolling
    exact (State.Reaches.ofPhaseMove p _ (.unrollRolling s p
      { s.trunk p with
        phase := .unrolling, undo := some undo, autoLead := auto, releaseRequest := false, soak := none } hrolling rfl ⟨rfl, rfl, rfl, rfl⟩) rfl rfl
      fun _ => ⟨rfl, rfl⟩).trans (State.reaches_reportChange _)
  · rename_i hrolling
    obtain ⟨hrolled, hcommit⟩ := h.resolve_left hrolling
    exact (State.Reaches.ofPhaseMove p _ (.unrollRolled s p
      { s.trunk p with
        phase := .unrolling, undo := some undo, autoLead := auto, releaseRequest := false, soak := none } hrolled hcommit rfl ⟨rfl, rfl, rfl, rfl⟩) rfl rfl
      fun _ => ⟨rfl, rfl⟩).trans (State.reaches_reportChange _)

theorem State.reaches_applyFallback (s : State) (p : Port) : s.Reaches strict load tidy (s.applyFallback p) := by
  unfold State.applyFallback
  split
  case h_1 harmed => exact State.reaches_fallFromArmed harmed
  case h_2 hrolling => exact State.reaches_enterUnrolling _ _ (.inl hrolling)
  case h_3 hrolled hcommit => exact State.reaches_enterUnrolling _ _ (.inr ⟨hrolled, hcommit⟩)
  case h_7 => exact .refl s
  all_goals exact s.reaches_recordOccurrence _ _

theorem State.reaches_dispatchFallback (s : State) (o : Option Port) :
    s.Reaches strict load tidy (s.dispatchFallback o) := by
  cases o with
  | none => exact .foldl _ State.reaches_applyFallback _ s
  | some p => exact s.reaches_applyFallback p

theorem State.reaches_dispatchFor (s : State) (o : Occurrence) : s.Reaches strict load tidy (s.dispatchFor o) := by
  unfold State.dispatchFor
  split
  · exact s.reaches_dispatchFallback _
  · exact .refl s

theorem State.reaches_dispatchAll (s : State) (os : List Occurrence) :
    s.Reaches strict load tidy (s.dispatchAll os) := .foldl _ State.reaches_dispatchFor os s

/-! ## Store units (R42, R43) -/

theorem State.reaches_writesReported (s : State) (ws : List (Physical × Word)) :
    s.Reaches strict load tidy (s.writesReported ws).1 := by
  induction ws generalizing s with
  | nil => exact .refl s
  | cons xw rest ih =>
    exact (s.reaches_writeWord xw.1 xw.2).trans (((s.writeWord xw.1 xw.2).reaches_observe xw.1 xw.2).trans (ih _))

theorem State.reaches_sweepAccesses (s : State) (sw : Sweep) :
    s.Reaches strict load tidy (s.sweepAccesses sw).1 := by
  unfold State.sweepAccesses
  split
  · exact s.reaches_censusRead _ _ _
  · exact s.reaches_writesReported _

/-- A trunk's only sweep put back in its place, its kind kept. -/
theorem State.reaches_setSweep {sw now : Sweep} (hnow : s.sweepOf sw.trunk = some now) (hkind : sw.kind = now.kind)
    (hqueue : tidy → s.sweepsSound) : s.Reaches strict load tidy (s.setSweep sw) := by
  by_cases htidy : tidy
  · have hnodup := (hqueue htidy).1
    refine .same ⟨rfl, rfl, rfl, rfl, rfl, rfl, rfl, ?_, fun _ => rfl, rfl, rfl, rfl⟩ rfl
    rw [State.setSweep_sweeps, List.map_map]
    refine List.map_congr_left fun old hold => ?_
    by_cases htrunk : old.trunk = sw.trunk
    · have hmem : now ∈ s.sweeps := List.mem_of_find?_eq_some hnow
      have hnowTrunk : now.trunk = sw.trunk := by simpa using List.find?_some hnow
      have hold : old = now := eq_of_map_nodup hnodup hold hmem (htrunk.trans hnowTrunk.symm)
      rw [Function.comp, if_pos htrunk, hkind, htrunk, hold]
    · simp [htrunk]
  · exact ⟨.recount s sw htidy, fun _ hi => hi⟩

theorem State.reaches_raiseInUnit (r : State × List Occurrence) (src : FaultSource) (o : Option Port) :
    r.1.Reaches strict load tidy (raiseInUnit r src o).1 := State.reaches_recordOccurrence _ _ _

theorem State.reaches_runSweepUnit (hs : s.Premises strict tidy) (p : Port) :
    s.Reaches strict load tidy (s.runSweepUnit p) := by
  unfold State.runSweepUnit
  split
  · exact .refl s
  · rename_i sw _
    dsimp only
    have hpremises : (s.sweepAccesses sw).1.Premises strict tidy := (s.reaches_sweepAccesses sw).premises hs
    have hcounted : s.Reaches strict load tidy (match (s.sweepAccesses sw).1.sweepOf p with
        | some now => (s.sweepAccesses sw).1.setSweep now.counted
        | none => (s.sweepAccesses sw).1) := by
      split
      · rename_i now hnow
        have htrunk : now.trunk = p := by simpa using List.find?_some hnow
        refine (s.reaches_sweepAccesses sw).trans (State.reaches_setSweep (now := now) ?_ rfl hpremises.queue)
        rw [show now.counted.trunk = p from htrunk]; exact hnow
      · exact s.reaches_sweepAccesses sw
    refine State.Reaches.trans ?_ (State.reaches_dispatchAll _ _)
    split
    · exact hcounted.trans (State.reaches_recordOccurrence _ _ _)
    · exact hcounted

theorem State.reaches_giveReady (s : State) : s.Reaches strict load tidy s.giveReady :=
  .ofMove (.cycle s none fun _ _ h => nomatch h) rfl rfl

theorem State.reaches_giveReadyWith (s : State) (w : Word) : s.Reaches strict load tidy (s.giveReadyWith w) :=
  s.reaches_giveReady.trans (.quiet _ rfl)

theorem State.reaches_reportStoreCycle (s : State) (a : Listed) (isRead : Bool) :
    s.Reaches strict load tidy (s.reportStoreCycle a isRead) := by
  rw [State.reportStoreCycle_eq]
  exact .quiet s rfl

theorem State.reaches_runProcessorWrite (s : State) (a : Listed) (w : Word) :
    s.Reaches strict load tidy (s.runProcessorWrite a w) :=
  (((s.reaches_writesReported _).trans (State.reaches_reportStoreCycle _ a false)).trans
    (State.reaches_giveReady _)).trans (State.reaches_dispatchAll _ _)

theorem State.reaches_runProcessorRead (s : State) (a : Listed) :
    s.Reaches strict load tidy (s.runProcessorRead a) := by
  unfold State.runProcessorRead
  dsimp only
  have hparity : s.Reaches strict load tidy
      (if parityFailed (s.readWord (s.readAddress a)) then raiseInUnit (s, []) .storeParity none else (s, [])).1 := by
    split
    · exact s.reaches_recordOccurrence _ _
    · exact .refl s
  refine State.Reaches.trans ((State.Reaches.trans ?_ (State.reaches_reportStoreCycle _ a true)).trans
    (State.reaches_giveReadyWith _ _)) (State.reaches_dispatchAll _ _)
  split
  · exact hparity.trans (State.reaches_raiseInUnit _ _ _)
  · exact hparity

theorem State.reaches_answerRaw (s : State) (w : Word) : s.Reaches strict load tidy (s.answerRaw w) := by
  unfold State.answerRaw
  split
  · exact .quiet s rfl
  · exact .refl s

theorem State.reaches_runUnit (hs : s.Premises strict tidy) (u : StoreUnit) :
    s.Reaches strict load tidy (s.runUnit u) := by
  match u with
  | .processor (.read a) => exact s.reaches_runProcessorRead a
  | .processor (.write a w) => exact s.reaches_runProcessorWrite a w
  | .processor (.raw x) => exact (s.reaches_answerRaw _).trans (State.reaches_giveReady _)
  | .sweep _ p => exact State.reaches_runSweepUnit hs p

/-! ## The end of the unit in progress (R43, R85) -/

theorem State.reaches_atBoundary (hs : s.Premises strict tidy) : s.Reaches strict load tidy s.atBoundary := by
  unfold State.atBoundary
  split
  · exact .refl s
  · exact (State.reaches_runUnit hs _).trans
      (.ofMove (.arbiter _ _ (.inr rfl) fun _ _ _ hw _ => ⟨rfl, hw⟩) rfl rfl)

theorem State.reaches_moveCursorOf (s : State) (u : Option StoreUnit) :
    s.Reaches strict load tidy (s.moveCursorOf u) := by
  unfold State.moveCursorOf
  split
  · refine State.Reaches.sweeps s _ fun sw => ?_
    split
    · exact s.advanced_kind_trunk sw
    · exact ⟨rfl, rfl⟩
  · exact .refl s

/-- An event that takes its effects when the unit in progress ends. -/
theorem State.reaches_atUnitEnd (hs : s.Premises strict tidy) {effect : State → State}
    (heffect : s.atBoundary.Premises strict tidy → s.atBoundary.Reaches strict load tidy (effect s.atBoundary)) :
    s.Reaches strict load tidy (s.atUnitEnd effect) :=
  ((State.reaches_atBoundary hs).trans (heffect ((State.reaches_atBoundary hs).premises hs))).trans (State.reaches_moveCursorOf _ _)

theorem State.reaches_finishUnit (hs : s.Premises strict tidy) : s.Reaches strict load tidy s.finishUnit :=
  State.reaches_atUnitEnd hs fun _ => .refl _

theorem State.reaches_raise (hs : s.Premises strict tidy) (src : FaultSource) (o : Option Port) :
    s.Reaches strict load tidy (s.raise src o) := by
  unfold State.raise
  dsimp only
  split
  · exact (s.reaches_recordOccurrence src o).trans
      (State.reaches_atUnitEnd ((s.reaches_recordOccurrence src o).premises hs) fun _ => State.reaches_dispatchFallback _ _)
  · exact s.reaches_recordOccurrence src o

/-! ## The next grant (R45) -/

/-- The grant decision keeps the allowance count within 8, and grants nothing where nothing waits and no sweep is. -/
theorem Arbiter.decide_allowance (a : Arbiter) (offer : Option Sweep) :
    (a.decide offer).allowance ≤ 8 ∨ (a.decide offer).allowance = a.allowance := by
  unfold Arbiter.decide
  split
  · exact .inr rfl
  · exact .inl (Nat.zero_le _)
  · rename_i hw
    exact .inr (by simp [Arbiter.grantSweep, hw])
  · rename_i sw _ _
    split
    · rename_i h
      simp only [Bool.and_eq_true, decide_eq_true_eq] at h
      refine .inl ?_
      unfold Arbiter.grantSweep
      dsimp only
      split <;> omega
    · exact .inl (Nat.zero_le _)

theorem State.reaches_arbitrate (s : State) : s.Reaches strict load tidy s.arbitrate := by
  unfold State.arbitrate
  split
  · exact .refl s
  · refine .ofMove (.arbiter s _ (Arbiter.decide_allowance _ _) fun _ _ hp hw hsweeps => ?_) rfl rfl
    have hoffer : s.sweepOffer = none := by simp [State.sweepOffer, State.executing, hsweeps]
    have hdecide : s.arbiter.decide none = s.arbiter := by simp [Arbiter.decide, hw]
    rw [hoffer, hdecide]
    exact ⟨hp, hw⟩

theorem State.reaches_resume (s : State) : s.Reaches strict load tidy s.resume := by
  unfold State.resume
  split
  · exact .refl s
  · exact s.reaches_engine.trans (State.reaches_arbitrate _)

/-! ## Completions (R86) -/

theorem State.hasSweep_removeSweep (s : State) (p : Port) : (s.removeSweep p).hasSweep p = false := by
  rw [State.hasSweep_eq_false_iff, State.kinds_removeSweep]
  intro e he
  simpa using (List.mem_filter.mp he).2

theorem State.reaches_removeSweep (s : State) (p : Port) : s.Reaches strict load tidy (s.removeSweep p) :=
  .ofMove (.dropSweep s p) rfl rfl

theorem State.trunk_clearIndex_ne (s : State) {p q : Port} (h : q ≠ p) : (s.clearIndex p).trunk q = s.trunk q :=
  (s.freeLinks p).trunk_setTrunk_ne _ h

/-- A record without a sweep becomes BOUND, its links freed, and is no longer announced (R116, R149, R153). -/
theorem State.reaches_toBound {p : Port} {r : TrunkRecord} (hsweep : s.hasSweep p = false)
    (hp : s.phase p = .census ∨ s.phase p = .tracked ∨ s.phase p = .unbridging) (hr : r.phase = .bound)
    (hk : (s.trunk p).Keeps r) : s.Reaches strict load tidy (((s.setTrunk p r).clearIndex p).leaveAnnounced p) := by
  refine State.Reaches.trans (t := ((s.setTrunk p r).clearIndex p).setView p none) ⟨?_, fun _ hi => ?_⟩
    (State.reaches_reportChange _)
  · exact (State.Chain.moves (.one (.bound s p r hsweep hp hr hk))).trans (State.reaches_clearIndex _ p).chain
  · exact hi.without p rfl fun q hq =>
      ((s.setTrunk p r).trunk_clearIndex_ne hq).trans (s.trunk_setTrunk_ne r hq)

theorem State.reaches_completePrepare (s : State) (p : Port) :
    s.Reaches strict load tidy (s.completePrepare p) :=
  (s.reaches_removeSweep p).trans
    (.ofPhaseMove p _ (.prepared _ p (s.hasSweep_removeSweep p)) rfl rfl fun h => ⟨h, rfl⟩)

theorem State.reaches_completeCensus (s : State) (p : Port) : s.Reaches strict load tidy (s.completeCensus p) := by
  refine (s.reaches_removeSweep p).trans ?_
  unfold State.completeCensus
  dsimp only
  split
  · rename_i hp
    exact (State.Reaches.ofPhaseMove p _ (.onward _ p
      { (s.removeSweep p).trunk p with phase := .tracked } (s.hasSweep_removeSweep p) (.inl ⟨hp, rfl⟩)
      ⟨rfl, rfl, rfl, rfl⟩) rfl rfl fun _ => ⟨rfl, rfl⟩).trans (State.reaches_reportChange _)
  · exact .refl _

theorem State.reaches_completeBridge (s : State) (p : Port) : s.Reaches strict load tidy (s.completeBridge p) := by
  refine (s.reaches_removeSweep p).trans ?_
  unfold State.completeBridge
  dsimp only
  split
  · rename_i hp
    exact (State.Reaches.ofPhaseMove p _ (.onward _ p
      { (s.removeSweep p).trunk p with phase := .bridged } (s.hasSweep_removeSweep p) (.inr (.inl ⟨hp, rfl⟩))
      ⟨rfl, rfl, rfl, rfl⟩) rfl rfl fun _ => ⟨rfl, rfl⟩).trans (State.reaches_reportChange _)
  · exact .refl _

theorem State.reaches_completeRoll (s : State) (p : Port) : s.Reaches strict load tidy (s.completeRoll p) := by
  refine (s.reaches_removeSweep p).trans ?_
  unfold State.completeRoll
  dsimp only
  split
  · rename_i hp
    exact (State.Reaches.ofPhaseMove p _ (.rolled _ p
      { (s.removeSweep p).trunk p with
        phase := .rolled, commit := false, soak := some (s.removeSweep p).timing.soakInForce } (s.hasSweep_removeSweep p) hp rfl rfl rfl rfl) rfl rfl
      fun _ => ⟨rfl, rfl⟩).trans (State.reaches_reportChange _)
  · exact .refl _

theorem State.reaches_completeUnroll (s : State) (p : Port) : s.Reaches strict load tidy (s.completeUnroll p) := by
  refine (s.reaches_removeSweep p).trans ?_
  unfold State.completeUnroll
  dsimp only
  split
  · rename_i hp _
    exact (State.Reaches.ofPhaseMove p _ (.onward _ p
      { (s.removeSweep p).trunk p with phase := .bridged, undo := none, rollStart := none } (s.hasSweep_removeSweep p) (.inr (.inr ⟨hp, rfl⟩))
      ⟨rfl, rfl, rfl, rfl⟩) rfl rfl fun _ => ⟨rfl, rfl⟩).trans (State.reaches_reportChange _)
  · rename_i hp _
    exact (State.Reaches.ofPhaseMove p _ (.unrolledToUnbridge _ p
      { (s.removeSweep p).trunk p with phase := .unbridging, rollStart := none } hp (s.hasSweep_removeSweep p) rfl
      ⟨rfl, rfl, rfl, rfl⟩) rfl rfl fun _ => ⟨rfl, rfl⟩).trans (State.reaches_reportChange _)
  · exact .refl _

/-- A completed RELEASE makes the record MIGRATED and frees its links (R71, R136). -/
theorem State.reaches_completeRelease (s : State) (p : Port) : s.Reaches strict load tidy (s.completeRelease p) := by
  refine (s.reaches_removeSweep p).trans ?_
  unfold State.completeRelease
  dsimp only
  split
  · rename_i hp
    refine ⟨?_, fun _ hi => ?_⟩
    · exact (State.Chain.moves (.one (.migrated _ p
          { (s.removeSweep p).trunk p with phase := .migrated, lingering := true, autoLead := none } (s.hasSweep_removeSweep p) hp rfl rfl rfl rfl rfl))).trans
        ((State.reaches_reportChange _).trans (State.reaches_clearIndex _ p)).chain
    · exact hi.without p rfl fun q hq =>
        (State.trunk_clearIndex_ne _ hq).trans (State.trunk_changeTrunk_ne _ _ hq)
  · exact .refl _

theorem State.reaches_completeUnbridge (s : State) (p : Port) :
    s.Reaches strict load tidy (s.completeUnbridge p) := by
  refine (s.reaches_removeSweep p).trans ?_
  unfold State.completeUnbridge
  dsimp only
  split
  · rename_i hp
    exact State.reaches_toBound (s.hasSweep_removeSweep p) (.inr (.inr hp)) rfl ⟨rfl, rfl, rfl, rfl⟩
  · exact .refl _

theorem State.reaches_complete (s : State) (kind : SweepKind) (p : Port) :
    s.Reaches strict load tidy (s.complete kind p) := by
  cases kind with
  | prepare => exact s.reaches_completePrepare p
  | census => exact s.reaches_completeCensus p
  | bridge => exact s.reaches_completeBridge p
  | roll => exact s.reaches_completeRoll p
  | unroll => exact s.reaches_completeUnroll p
  | release => exact s.reaches_completeRelease p
  | unbridge => exact s.reaches_completeUnbridge p

/-- A completion finds the part at the end of the unit in progress. -/
theorem State.reaches_takeCompletion (hs : s.Premises strict tidy) (kind : SweepKind) :
    s.Reaches strict False tidy (s.takeCompletion kind) := by
  unfold State.takeCompletion
  dsimp only
  split
  · split
    · exact (((State.reaches_finishUnit hs).trans (State.reaches_engine _)).trans
        (State.reaches_complete _ _ _)).trans (State.reaches_resume _)
    · exact .refl s
  · exact .refl s

end Sys2Proof.Machine
end

section
/-! SUPPORT. The commands and the steps of the channel as chains of moves. -/

namespace Sys2Proof.Machine

variable {strict load tidy : Prop} {s t : State}

/-! ## Served commands (R41, R195) -/

/-- The channel takes a cycle that the port has classed as a channel cycle (R37). -/
theorem State.cycle_of_channelAct {act : ChannelAct} (h : s.channelAct = some act) :
    ∃ c, s.port.cycle = some { cycle := c, cls := some .channel } := by
  unfold State.channelAct at h
  split at h
  · rename_i c hcycle; exact ⟨c, hcycle⟩
  · contradiction

/-- No channel cycle is taken while the image is LOADING (R36, R37). -/
theorem State.notLoading_of_channelAct {act : ChannelAct} (h : s.channelAct = some act)
    (hs : s.Premises strict tidy) : strict → s.image.state ≠ .loading := by
  intro hstrict hloading
  obtain ⟨c, hcycle⟩ := State.cycle_of_channelAct h
  obtain ⟨-, -, -, -, hcls⟩ := hs.load hstrict hloading
  exact absurd (hcls _ hcycle) (by simp)

theorem State.reaches_respond (r : Answer) : r.1.Reaches strict load tidy (State.respond r) :=
  (State.Reaches.quiet r.1 (channel := { state := _, lastResult := _ }) rfl).trans (State.reaches_giveReady _)

theorem State.reaches_serve (hs : s.Premises strict tidy) (c : Command) {body : Byte → List Word → State → Answer}
    (hbody : ∀ target params (t : State), (strict → t.image.state ≠ .loading) →
      t.Reaches strict False tidy (body target params t).1) : s.Reaches strict False tidy (s.serve c body) := by
  unfold State.serve
  split
  · rename_i c' target params hact
    have hloading := State.notLoading_of_channelAct hact hs
    split
    · refine State.Reaches.trans ?_ (State.reaches_resume _)
      split
      · exact (hbody target params s hloading).trans (State.reaches_respond _)
      · exact State.reaches_atUnitEnd hs fun _ =>
          (hbody target params _ (State.Reaches.notLoading (load := False) (State.reaches_atBoundary hs) hloading)).trans (State.reaches_respond _)
    · exact .refl s
  · exact .refl s

/-! ## Targets (R20, R21) -/

theorem onMembers_reaches {one : State → Port → State × Result}
    (hone : ∀ (s : State) p, s.Reaches strict load tidy (one s p).1) (s : State) (ps : List Port) :
    s.Reaches strict load tidy (onMembers one s ps).1 := by
  induction ps generalizing s with
  | nil => exact .refl s
  | cons p rest ih => exact (hone s p).trans (ih _)

theorem recordCommand_reaches {one : State → Port → State × Result}
    (hone : ∀ (s : State) p, s.Reaches strict load tidy (one s p).1) (target : Byte) (s : State) :
    s.Reaches strict load tidy (recordCommand one target s).1 := by
  unfold recordCommand
  split
  · exact hone s _
  · exact .refl s
  · exact .refl s
  all_goals
    split
    · exact .refl s
    · exact onMembers_reaches hone s _

theorem copperCommand_reaches {body : Port → State → Answer} {s : State}
    (hbody : ∀ p, s.Reaches strict load tidy (body p s).1) (target : Byte) :
    s.Reaches strict load tidy (copperCommand body target s).1 := by
  unfold copperCommand
  split
  · exact hbody _
  · exact .refl s

theorem deviceCommand_reaches {body : State → Answer} {s : State}
    (hbody : s.Reaches strict load tidy (body s).1) (target : Byte) :
    s.Reaches strict load tidy (deviceCommand body target s).1 := by
  unfold deviceCommand
  split
  · exact hbody
  · exact .refl s

/-! ## CHANNEL_READ, COMMAND_WORD, PARAMETER_WORD, UNKNOWN_COMMAND and CLOSE -/

theorem State.reaches_abandon (hs : s.Premises strict tidy) : s.Reaches strict False tidy s.abandon := by
  have hquiet : s.Reaches strict False tidy { s with channel := { state := .opened, lastResult := .abandoned } } :=
    .quiet s rfl
  exact (hquiet.trans (State.reaches_raise (hquiet.premises hs) _ _)).trans (State.reaches_giveReadyWith _ _)

theorem State.reaches_serveChannelRead (hs : s.Premises strict tidy) :
    s.Reaches strict False tidy s.serveChannelRead := by
  unfold State.serveChannelRead
  split
  · refine State.Reaches.trans ?_ (State.reaches_resume _)
    split
    · exact State.reaches_abandon hs
    · exact (State.Reaches.quiet s (channel := { s.channel with state := _ }) rfl).trans
        (State.reaches_giveReadyWith _ _)
    · exact s.reaches_giveReadyWith _
    · exact s.reaches_giveReadyWith _
  · exact .refl s

theorem State.reaches_serveCommandWord (s : State) : s.Reaches strict load tidy s.serveCommandWord := by
  unfold State.serveCommandWord
  split
  · exact ((State.Reaches.quiet s (channel := { s.channel with state := _ }) rfl).trans
      (State.reaches_giveReady _)).trans (State.reaches_resume _)
  · exact .refl s

theorem State.reaches_serveParameterWord (s : State) : s.Reaches strict load tidy s.serveParameterWord := by
  unfold State.serveParameterWord
  split
  · exact ((State.Reaches.quiet s (channel := { s.channel with state := _ }) rfl).trans
      (State.reaches_giveReady _)).trans (State.reaches_resume _)
  · exact .refl s

theorem State.reaches_serveUnknown (hs : s.Premises strict tidy) : s.Reaches strict False tidy s.serveUnknown := by
  unfold State.serveUnknown
  split
  · exact ((State.reaches_raise hs _ _).trans (State.reaches_respond (s.raise .channelProtocol none, .unknown, []))).trans
      (State.reaches_resume _)
  · exact .refl s

theorem State.reaches_serveClose (hs : s.Premises strict tidy) : s.Reaches strict False tidy s.serveClose := by
  unfold State.serveClose
  split
  · refine State.Reaches.trans (State.reaches_atUnitEnd hs fun _ => ?_) (State.reaches_resume _)
    exact (State.Reaches.quiet _ (channel := { state := .closed 0, lastResult := .done }) rfl).trans
      (State.reaches_giveReady _)
  · exact .refl s

/-! ## The commands of chapter 2 -/

theorem State.circuit_ne_of_not_held {circuit : Word} (h : s.circuitHeld circuit = false) {p : Port} {b : Binding}
    (hb : (s.trunk p).binding = some b) : b.circuit ≠ circuit := by
  have := List.any_eq_false.mp h p (List.mem_finRange p)
  simpa [hb] using this

theorem validMap_identityMap : validMap identityMap = true := by decide

theorem validMap_bindMap {params : List Word} {m : ChannelMap} (h : bindMap params = some m) : validMap m = true := by
  unfold bindMap at h
  split at h
  · exact Option.some.inj h ▸ validMap_identityMap
  · split at h
    · split at h
      · exact Option.some.inj h ▸ ‹_›
      · contradiction
    · contradiction

theorem bindRecord_reaches (hloading : strict → s.image.state ≠ .loading) (params : List Word) (p : Port) :
    s.Reaches strict load tidy (bindRecord params p s).1 := by
  unfold bindRecord
  split
  · exact .refl s
  · rename_i hfree
    have hfree : s.phase p = .free := by simpa using hfree
    split
    · exact .refl s
    · rename_i F _
      split
      · exact .refl s
      · rename_i hheld
        simp only [Bool.or_eq_true, not_or, Bool.not_eq_true, Option.isSome_eq_false_iff,
          Option.isNone_iff_eq_none] at hheld
        split
        · exact .refl s
        · rename_i m hm
          refine .ofPhaseMove p _ (.bind s p
            { fibre := F, circuit := parameter params 1, map := m, digest := mapDigest m, prepared := false,
              fibreAlarm := s.link.alarmSet.getLsbD F.val }
            hfree hheld.1 hheld.2 (validMap_bindMap hm) rfl rfl hloading) rfl rfl fun h => ?_
          rw [hfree] at h; contradiction

theorem State.reaches_freeRecord {p : Port} (h : s.phase p = .bound) : s.Reaches strict load tidy (s.freeRecord p) := by
  refine .ofPhaseMove p .freeRecord (.free s p h) ?_ ?_ fun hactive => ?_
  · unfold State.freeRecord; split <;> rfl
  · unfold State.freeRecord; split <;> rfl
  · rw [h] at hactive; contradiction

theorem unbindOne_reaches (s : State) (p : Port) : s.Reaches strict load tidy (unbindOne s p).1 := by
  unfold unbindOne
  split
  · exact .refl s
  · split
    · rename_i h; exact State.reaches_freeRecord h
    · exact .refl s

theorem groupsRecord_reaches (w : Word) (p : Port) (s : State) :
    s.Reaches strict load tidy (groupsRecord w p s).1 := by
  unfold groupsRecord
  split
  · exact .refl s
  · split
    · exact .refl s
    · split
      · exact .refl s
      · exact State.reaches_setTrunk p (.ofEq rfl rfl rfl rfl rfl) id

/-- A lock other than PINNED may be set on any record, and PINNED on a MIGRATED one (R27). -/
theorem State.reaches_setLock {p : Port} {l : Lock} (h : l = .pinned → s.phase p = .migrated) :
    s.Reaches strict load tidy (s.setLock p l) :=
  State.reaches_setTrunk p
    ⟨rfl, TrunkRecord.Alike.refl_binding _, .inl, fun hl => .inr (h hl), rfl⟩ id

theorem lockOne_reaches (s : State) (p : Port) : s.Reaches strict load tidy (lockOne s p).1 := by
  unfold lockOne
  split
  · exact .refl s
  · split
    · exact State.reaches_setLock (nomatch ·)
    · exact State.reaches_setLock (nomatch ·)
    · exact .refl s

theorem unlockOne_reaches (s : State) (p : Port) : s.Reaches strict load tidy (unlockOne s p).1 := by
  unfold unlockOne
  split
  · exact .refl s
  · split
    · exact State.reaches_setLock (nomatch ·)
    · exact State.reaches_setLock (nomatch ·)
    · exact .refl s

/-- The image may take any content and any state but LOADING. -/
theorem State.reaches_image (s : State) (i : BindingImage) (h : i.state ≠ .loading) :
    s.Reaches strict load tidy { s with image := i } :=
  .ofMove (.image s i fun hl => absurd hl h) rfl rfl

theorem pinOne_reaches (s : State) (p : Port) : s.Reaches strict load tidy (pinOne s p).1 := by
  unfold pinOne
  split
  · rename_i hphase _
    split
    · exact .refl s
    · split
      · exact (State.reaches_setLock fun _ => hphase).trans (State.reaches_image _ _ (by simp))
      · exact .refl s
      · split <;> exact .refl s
  · exact .refl s

theorem eraseImage_reaches (s : State) : s.Reaches strict load tidy (eraseImage s).1 := by
  unfold eraseImage
  split
  · exact .refl s
  · exact s.reaches_image _ (by simp)

/-! ## The cutover commands (chapters 7 and 8) -/

theorem State.reaches_startRecord {p : Port} (hp : (s.trunk p).preparedBound = true) (hn : s.announcedCount < 8) :
    s.Reaches strict load tidy (s.startRecord p) := by
  refine .ofPhaseMove p { s.trunk p with phase := .census } (.start s p hp hn) ?_ ?_ fun _ => ⟨rfl, rfl⟩
  · unfold State.startRecord State.joinAnnounced; split <;> rfl
  · unfold State.startRecord State.joinAnnounced; split <;> rfl

theorem startOne_reaches (s : State) (p : Port) : s.Reaches strict load tidy (startOne s p).1 := by
  unfold startOne
  split
  · exact .refl s
  split
  · exact .refl s
  split
  · exact .refl s
  split
  · exact .refl s
  · rename_i hprepared hcount
    exact State.reaches_startRecord (by simpa using hprepared) (by omega)

theorem State.reaches_bridgeRecord {p : Port} (hp : s.phase p = .tracked) (hsweep : s.hasSweep p = false) :
    s.Reaches strict load tidy (s.bridgeRecord p) :=
  (State.Reaches.ofPhaseMove p _ (.bridge s p { s.trunk p with phase := .bridging } hp hsweep rfl ⟨rfl, rfl, rfl, rfl⟩)
    rfl rfl fun _ => ⟨rfl, rfl⟩).trans (State.reaches_reportChange _)

theorem bridgeOne_reaches (s : State) (p : Port) : s.Reaches strict load tidy (bridgeOne s p).1 := by
  unfold bridgeOne
  split
  · exact .refl s
  split
  · exact .refl s
  split
  · rename_i hp
    split
    · exact .refl s
    · rename_i hsweep
      exact State.reaches_bridgeRecord hp (by simpa using hsweep)
  · exact .refl s

theorem rollOne_reaches (lead : Nat) (s : State) (p : Port) : s.Reaches strict load tidy (rollOne lead s p).1 := by
  unfold rollOne
  split
  · exact .refl s
  split
  · exact .refl s
  split
  · exact State.reaches_setTrunk p (.ofEq rfl rfl rfl rfl rfl) id
  · exact State.reaches_setTrunk p (.ofEq rfl rfl rfl rfl rfl) id
  · exact .refl s

theorem releaseOne_reaches (s : State) (p : Port) : s.Reaches strict load tidy (releaseOne s p).1 := by
  unfold releaseOne
  split
  · exact .refl s
  split
  · exact .refl s
  split
  · exact State.reaches_setTrunk p (.ofEq rfl rfl rfl rfl rfl) id
  · exact State.reaches_setTrunk p (.ofEq rfl rfl rfl rfl rfl) id
  · exact .refl s

theorem autoOne_reaches (setting lead : Nat) (s : State) (p : Port) :
    s.Reaches strict load tidy (autoOne setting lead s p).1 := by
  have hauto (a : Option Nat) : s.Reaches strict load tidy (s.setTrunk p { s.trunk p with autoLead := a }) :=
    State.reaches_setTrunk p (.ofEq rfl rfl rfl rfl rfl) id
  unfold autoOne
  split
  · exact .refl s
  split
  · exact .refl s
  split
  · split
    case h_9 => exact .refl s
    all_goals exact hauto _
  split
  · exact hauto _
  · exact .refl s

theorem recensusOne_reaches (s : State) (p : Port) : s.Reaches strict load tidy (recensusOne s p).1 := by
  have hcensus (hp : s.phase p = .tracked ∨ s.phase p = .bridged) (hsweep : s.hasSweep p = false) :
      s.Reaches strict load tidy ((s.clearIndex p).queueSweep .census p) := by
    refine (s.reaches_clearIndex p).trans (.ofMove (.census _ p ?_ hsweep) rfl rfl)
    have hphase : (s.clearIndex p).phase p = s.phase p := by
      rw [State.clearIndex, State.setIndexLost, State.phase_setTrunk, if_pos rfl]; rfl
    rw [hphase]; exact hp
  unfold recensusOne
  split
  · exact .refl s
  split
  · exact .refl s
  split
  case h_3 => exact .refl s
  all_goals
    rename_i hp
    split
    · exact .refl s
    · rename_i hsweep
      exact hcensus (by simp [hp]) (by simpa using hsweep)

theorem disarmOne_reaches (s : State) (p : Port) : s.Reaches strict load tidy (disarmOne s p).1 := by
  unfold disarmOne
  split
  · rename_i h; exact State.reaches_disarmRecord h
  · exact .refl s

theorem fallbackOne_reaches (s : State) (p : Port) : s.Reaches strict load tidy (fallbackOne s p).1 := by
  unfold fallbackOne
  split
  case h_1 harmed => exact State.reaches_fallFromArmed harmed
  case h_2 hrolling => exact State.reaches_enterUnrolling _ _ (.inl hrolling)
  case h_3 hrolled hcommit => exact State.reaches_enterUnrolling _ _ (.inr ⟨hrolled, hcommit⟩)
  case h_7 => exact .refl s
  all_goals exact s.reaches_recordOccurrence _ _

theorem State.reaches_abortToBound {p : Port} (hp : s.phase p = .census ∨ s.phase p = .tracked) :
    s.Reaches strict load tidy (s.abortToBound p) := by
  refine (s.reaches_removeSweep p).trans
    (State.reaches_toBound (s.hasSweep_removeSweep p) ?_ rfl ⟨rfl, rfl, rfl, rfl⟩)
  exact hp.elim .inl fun h => .inr (.inl h)

theorem State.reaches_abortToUnbridging {p : Port}
    (hp : s.phase p = .bridging ∨ s.phase p = .bridged ∨ s.phase p = .armed) :
    s.Reaches strict load tidy (s.abortToUnbridging p) :=
  ((s.reaches_removeSweep p).trans (.ofPhaseMove p _ (.unbridge _ p
    { s.trunk p with phase := .unbridging, undo := some .bound, epoch := none, rollRequest := none }
    hp (s.hasSweep_removeSweep p) rfl ⟨rfl, rfl, rfl, rfl⟩) rfl rfl fun _ => ⟨rfl, rfl⟩)).trans
    (State.reaches_reportChange _)

theorem abortOne_reaches (s : State) (p : Port) : s.Reaches strict load tidy (abortOne s p).1 := by
  unfold abortOne
  split
  · exact .refl s
  split
  case h_1 =>
    split
    · exact s.reaches_removeSweep p
    · exact .refl s
  case h_2 h => exact State.reaches_abortToBound (.inl h)
  case h_3 h => exact State.reaches_abortToBound (.inr h)
  case h_4 h => exact State.reaches_abortToUnbridging (.inl h)
  case h_5 h => exact State.reaches_abortToUnbridging (.inr (.inl h))
  case h_6 h => exact State.reaches_abortToUnbridging (.inr (.inr h))
  case h_7 h => exact State.reaches_enterUnrolling _ _ (.inl h)
  case h_8 h hcommit => exact State.reaches_enterUnrolling _ _ (.inr ⟨h, hcommit⟩)
  case h_12 =>
    split
    · exact State.reaches_setTrunk p (.ofEq rfl rfl rfl rfl rfl) id
    · exact .refl s
  all_goals exact .refl s

/-! ## The device-wide commands -/

theorem State.reaches_clearFaults (s : State) : s.Reaches strict load tidy s.clearFaults := by
  have hsources : s.Reaches strict load tidy (s.clearSources FaultSource.all) :=
    .foldl (fun t src => t.setSource src (t.source src).cleared)
      (fun t src => .ofMove (.source t src _ (.inr rfl) fun _ h => h) rfl rfl) _ s
  rw [State.clearFaults_eq_clearSources]
  exact hsources.trans (.quiet _ rfl)

theorem setAction_reaches (w : Word) (s : State) : s.Reaches strict load tidy (setAction w s).1 := by
  unfold setAction
  split
  · exact .refl s
  · dsimp only
    split
    · exact .ofMove (.source s _ _ (.inl rfl) fun _ h => nomatch h) rfl rfl
    · rename_i src _ hclamped
      refine .ofMove (.source s _ _ (.inl rfl) fun hsrc hcls => absurd ?_ hclamped) rfl rfl
      simpa [hsrc] using hcls

theorem queryIndex_reaches (slot : Nat) (p : Port) (s : State) :
    s.Reaches strict load tidy (queryIndex slot p s).1 := by
  unfold queryIndex
  split <;> exact .refl s

/-- The access of a READ_STORE waits at the arbiter; no READ_STORE is served during the load (R36, R54). -/
theorem State.reaches_requestRaw (w : Word) (hloading : strict → s.image.state ≠ .loading) :
    s.Reaches strict load tidy (s.requestRaw w) := by
  unfold State.requestRaw
  split
  · rename_i command taken required _
    exact (State.Reaches.quiet s (channel := { s.channel with state := .collecting command (taken ++ [w]) required })
      rfl).trans (.ofMove (.arbiter _ _ (.inr rfl) fun hs hl => absurd hl (hloading hs)) rfl rfl)
  · exact .refl s

theorem State.reaches_serveReadStore (hs : s.Premises strict tidy) :
    s.Reaches strict False tidy s.serveReadStore := by
  unfold State.serveReadStore
  split
  · rename_i hact
    split
    · split
      · exact (State.reaches_respond (s, .badParam, [])).trans (State.reaches_resume _)
      · exact (State.reaches_requestRaw _ (State.notLoading_of_channelAct hact hs)).trans (State.reaches_resume _)
    · exact (State.reaches_respond (s, .badTarget, [])).trans (State.reaches_resume _)
  · exact .refl s

/-! ## Every command -/

theorem Command.answer_reaches (c : Command) (target : Byte) (params : List Word)
    (hloading : strict → s.image.state ≠ .loading) :
    s.Reaches strict load tidy (c.answer target params s).1 := by
  cases c with
  | status | readStore => exact deviceCommand_reaches (.refl s) target
  | bind => exact copperCommand_reaches (bindRecord_reaches hloading params) target
  | unbind => exact recordCommand_reaches unbindOne_reaches target s
  | groups => exact copperCommand_reaches (fun p => groupsRecord_reaches _ p s) target
  | lock => exact recordCommand_reaches lockOne_reaches target s
  | unlock => exact recordCommand_reaches unlockOne_reaches target s
  | pin => exact recordCommand_reaches pinOne_reaches target s
  | eraseImage => exact deviceCommand_reaches (eraseImage_reaches s) target
  | start => exact recordCommand_reaches startOne_reaches target s
  | bridge => exact recordCommand_reaches bridgeOne_reaches target s
  | roll => exact recordCommand_reaches (rollOne_reaches _) target s
  | disarm => exact recordCommand_reaches disarmOne_reaches target s
  | release => exact recordCommand_reaches releaseOne_reaches target s
  | fallback => exact recordCommand_reaches fallbackOne_reaches target s
  | abort => exact recordCommand_reaches abortOne_reaches target s
  | recensus => exact recordCommand_reaches recensusOne_reaches target s
  | auto => exact recordCommand_reaches (autoOne_reaches _ _) target s
  | hold | clearHold => exact deviceCommand_reaches (.quiet s rfl) target
  | queryTrunk => exact copperCommand_reaches (fun _ => .quiet s rfl) target
  | queryFaults => exact deviceCommand_reaches (.quiet s rfl) target
  | clearFaults => exact deviceCommand_reaches s.reaches_clearFaults target
  | setAction => exact deviceCommand_reaches (setAction_reaches _ s) target
  | setTiming => exact deviceCommand_reaches (.quiet s rfl) target
  | queryIndex => exact copperCommand_reaches (fun p => queryIndex_reaches _ p s) target
  | close => exact .refl s

theorem State.reaches_serveCommand (hs : s.Premises strict tidy) (c : Command) :
    s.Reaches strict False tidy (s.serveCommand c) := by
  have hserve (c : Command) : s.Reaches strict False tidy (s.serve c c.answer) :=
    State.reaches_serve hs c fun target params _ => c.answer_reaches target params
  cases c with
  | readStore => exact State.reaches_serveReadStore hs
  | close => exact State.reaches_serveClose hs
  | _ => exact hserve _

theorem State.reaches_serveAct (hs : s.Premises strict tidy) (act : ChannelAct) :
    s.Reaches strict False tidy (s.serveAct act) := by
  cases act with
  | read => exact State.reaches_serveChannelRead hs
  | commandWord w => exact s.reaches_serveCommandWord
  | parameterWord w => exact s.reaches_serveParameterWord
  | unknown => exact State.reaches_serveUnknown hs
  | execute c target params => exact State.reaches_serveCommand hs c

end Sys2Proof.Machine
end

section
/-! SUPPORT. The rows of the timing unit, the peer link, the image and the port as chains of moves, and every row but
POWER_ON_RESET. -/

namespace Sys2Proof.Machine

variable {strict load tidy : Prop} {s t : State}

/-! ## Events that are due (log 1) -/

theorem State.reaches_takeDue (s : State) (d : Due) : s.Reaches strict load tidy (s.takeDue d) := .quiet s rfl

theorem State.reaches_onDue (hs : s.Premises strict tidy) (d : Due) {effect : State → State}
    (heffect : ∀ t : State, t.Premises strict tidy → t.Reaches strict False tidy (effect t)) :
    s.Reaches strict False tidy (s.onDue d effect) := by
  unfold State.onDue
  have hdue := s.reaches_takeDue (strict := strict) (load := False) (tidy := tidy) d
  split
  · exact (hdue.trans (heffect _ (hdue.premises hs))).trans (State.reaches_resume _)
  · exact .refl s

theorem State.reaches_onStep (hs : s.Premises strict tidy) (d : Due) {effect : State → State}
    (heffect : ∀ t : State, t.Premises strict tidy → t.Reaches strict False tidy (effect t)) :
    s.Reaches strict False tidy (s.onStep d effect) := by
  unfold State.onStep
  have hdue := s.reaches_takeDue (strict := strict) (load := False) (tidy := tidy) d
  split
  · exact (hdue.trans (heffect _ (hdue.premises hs))).trans (State.reaches_resume _)
  · exact .refl s

theorem State.reaches_onPhaseStep (hs : s.Premises strict tidy) (d : Due) {effect : State → State}
    (heffect : ∀ t : State, t.Premises strict tidy → t.Reaches strict False tidy (effect t)) :
    s.Reaches strict False tidy (s.onPhaseStep d effect) :=
  State.reaches_onStep hs d fun _ ht => State.reaches_atUnitEnd ht (heffect _)

/-- A fold of operations that are chains of moves where the premises hold. -/
theorem State.Reaches.foldlPremises {α : Type} {f : State → α → State}
    (h : ∀ (s : State) a, s.Premises strict tidy → s.Reaches strict False tidy (f s a)) (l : List α)
    (hs : s.Premises strict tidy) : s.Reaches strict False tidy (l.foldl f s) := by
  induction l generalizing s with
  | nil => exact .refl s
  | cons a rest ih => exact (h s a hs).trans (ih ((h s a hs).premises hs))

theorem State.reaches_raiseIf (hs : s.Premises strict tidy) (c : Bool) (src : FaultSource) (o : Option Port) :
    s.Reaches strict False tidy (if c then s.raise src o else s) := by
  split
  · exact State.reaches_raise hs src o
  · exact .refl s

/-! ## The multiframe boundary (chapters 6 and 7) -/

theorem State.reaches_stepSoak (s : State) (p : Port) : s.Reaches strict load tidy (s.stepSoak p) := by
  unfold State.stepSoak
  split
  · exact State.reaches_setTrunk p (.ofEq rfl rfl rfl rfl rfl) id
  · exact .refl s

theorem State.reaches_takeBoundary (hs : s.Premises strict tidy) : s.Reaches strict False tidy s.takeBoundary := by
  refine State.reaches_onDue hs _ fun t _ => ?_
  have hstep : t.Reaches strict False tidy t.stepTimers :=
    (State.Reaches.quiet t (timing := t.timing.stepped) (link := t.link.stepped) rfl).trans
      (.foldl _ State.reaches_stepSoak _ _)
  dsimp only
  generalize t.stepTimers = u at hstep ⊢
  exact hstep.trans (.quiet u rfl)

theorem State.reaches_commitRecord (s : State) (p : Port) : s.Reaches strict load tidy (s.commitRecord p) := by
  unfold State.commitRecord
  split
  · rename_i h
    exact State.reaches_changeTrunk p ⟨rfl, TrunkRecord.Alike.refl_binding _, fun _ => .inr h, .inl, rfl⟩ id
  · exact .refl s

theorem State.reaches_armRecord {p : Port} (hp : s.phase p = .bridged) (hsweep : s.hasSweep p = false) (lead : Nat) :
    s.Reaches strict load tidy (s.armRecord p lead) :=
  (State.Reaches.ofPhaseMove p _ (.arm s p
    { s.trunk p with phase := .armed, epoch := some (s.timing.multiframe + BitVec.ofNat 16 lead) }
    hp hsweep rfl ⟨rfl, rfl, rfl, rfl⟩) rfl rfl fun _ => ⟨rfl, rfl⟩).trans (State.reaches_reportChange _)

theorem State.reaches_rollRecord {p : Port} (hp : s.phase p = .armed) : s.Reaches strict load tidy (s.rollRecord p) :=
  (State.Reaches.ofPhaseMove p _ (.roll s p
    { s.trunk p with
      phase := .rolling, rollRequest := none, rollStart := some s.timing.multiframe, epoch := none }
    hp rfl ⟨rfl, rfl, rfl, rfl⟩) rfl rfl fun _ => ⟨rfl, rfl⟩).trans (State.reaches_reportChange _)

theorem State.reaches_startRoll (hs : s.Premises strict tidy) (p : Port) :
    s.Reaches strict False tidy (s.startRoll p) := by
  unfold State.startRoll
  split
  · rename_i hp
    have hroll := State.reaches_rollRecord (strict := strict) (load := False) (tidy := tidy) hp
    split
    · exact hroll.trans (State.reaches_raise (hroll.premises hs) _ _)
    · exact hroll
  · exact .refl s

theorem State.reaches_releaseRecord {p : Port} (hp : s.phase p = .rolled) :
    s.Reaches strict load tidy (s.releaseRecord p) :=
  (State.Reaches.ofPhaseMove p _ (.release s p
    { s.trunk p with phase := .releasing, releaseRequest := false, soak := none }
    hp rfl ⟨rfl, rfl, rfl, rfl⟩) rfl rfl fun _ => ⟨rfl, rfl⟩).trans (State.reaches_reportChange _)

theorem State.reaches_takeAutoStart (hs : s.Premises strict tidy) (p : Port) :
    s.Reaches strict False tidy (s.takeAutoStart p) := by
  refine State.reaches_onPhaseStep hs _ fun t _ => ?_
  split
  · rename_i h
    simp only [Bool.and_eq_true, decide_eq_true_eq] at h
    exact State.reaches_startRecord h.1 h.2
  · exact .refl t

theorem State.reaches_takeAutoBridge (hs : s.Premises strict tidy) (p : Port) :
    s.Reaches strict False tidy (s.takeAutoBridge p) := by
  refine State.reaches_onPhaseStep hs _ fun t _ => ?_
  split
  · rename_i h
    simp only [Bool.and_eq_true, decide_eq_true_eq, Bool.not_eq_true'] at h
    exact State.reaches_bridgeRecord h.1 h.2
  · exact .refl t

theorem State.reaches_takeArming (hs : s.Premises strict tidy) (p : Port) :
    s.Reaches strict False tidy (s.takeArming p) := by
  unfold State.takeArming
  split
  · split
    · refine State.reaches_onPhaseStep hs _ fun t _ => ?_
      split
      · rename_i h
        simp only [Bool.and_eq_true, decide_eq_true_eq, Bool.not_eq_true'] at h
        exact State.reaches_armRecord h.1 h.2 _
      · exact .refl t
    · exact .refl s
  · exact .refl s

theorem State.reaches_takeReturn (hs : s.Premises strict tidy) (p : Port) :
    s.Reaches strict False tidy (s.takeReturn p) := by
  refine State.reaches_onPhaseStep hs _ fun t _ => ?_
  split
  · rename_i h; exact State.reaches_returnFromArmed h
  · exact .refl t

theorem State.reaches_takeRollStart (hs : s.Premises strict tidy) : s.Reaches strict False tidy s.takeRollStart := by
  unfold State.takeRollStart
  split
  · exact State.reaches_onPhaseStep hs _ fun t ht => State.reaches_startRoll ht _
  · exact .refl s

theorem State.reaches_takeRelease (hs : s.Premises strict tidy) (p : Port) :
    s.Reaches strict False tidy (s.takeRelease p) := by
  refine State.reaches_onPhaseStep hs _ fun t _ => ?_
  split
  · rename_i h
    simp only [Bool.and_eq_true, decide_eq_true_eq] at h
    exact State.reaches_releaseRecord h.1
  · exact .refl t

/-! ## The receiver (R162, R163) -/

theorem PeerLink.takeByte_views (l : PeerLink) (disabled : Bool) (b : Byte) :
    (l.takeByte disabled b).1.views = l.views := by
  unfold PeerLink.takeByte
  dsimp only
  (repeat' split) <;> rfl

theorem PeerLink.retake_views (disabled : Bool) (bytes : List Byte) (l : PeerLink) :
    (PeerLink.retake disabled bytes l).1.views = l.views := by
  induction bytes generalizing l with
  | nil => rfl
  | cons b rest ih =>
    have hbyte := l.takeByte_views disabled b
    unfold PeerLink.retake
    split
    · rename_i l1 h
      rw [h] at hbyte
      rw [ih, hbyte]
    · rename_i l1 d h
      rw [h] at hbyte
      exact hbyte

theorem State.reaches_received (s : State) (r : PeerLink × Option Due) (h : r.1.views = s.link.views) :
    s.Reaches strict load tidy (s.received r) := .quiet s h

theorem State.reaches_goOnRetaking (s : State) : s.Reaches strict load tidy s.goOnRetaking :=
  s.reaches_received _ (PeerLink.retake_views ..)

theorem State.reaches_discardFrame (hs : s.Premises strict tidy) : s.Reaches strict False tidy s.discardFrame := by
  unfold State.discardFrame
  dsimp only
  have hheld : s.Reaches strict False tidy { s with link :=
      { s.link with receiver := .hunt, held := [], gap := 0, retaking := s.link.held.drop 1 ++ s.link.retaking } } :=
    .quiet s rfl
  refine State.Reaches.trans ?_ (State.reaches_goOnRetaking _)
  split
  · exact hheld
  · exact hheld.trans (State.reaches_raise (hheld.premises hs) _ _)

/-! ## Beacons (R165 to R174) -/

/-- A peer view replaced by one of the same circuit. -/
theorem State.reaches_setView {p : Port} {v w : PeerView} (hv : s.view p = some v) (hw : w.circuit = v.circuit) :
    s.Reaches strict load tidy (s.setView p (some w)) := by
  refine .same ⟨rfl, rfl, rfl, rfl, rfl, rfl, rfl, rfl, fun q => ?_, rfl, rfl, rfl⟩ rfl
  rw [State.view_setView]
  split
  · rename_i h; rw [h, hv]; simp [hw]
  · rfl

theorem PeerView.updated_circuit (v : PeerView) (records : List BeaconRecord) (m : Word) :
    (v.updated records m).circuit = v.circuit := by
  unfold PeerView.updated
  split <;> rfl

theorem State.reaches_updateView (accepted : State) (records : List BeaconRecord) (hs : s.Premises strict tidy)
    (p : Port) : s.Reaches strict False tidy (State.updateView accepted records s p) := by
  unfold State.updateView
  split
  · exact .refl s
  · rename_i v hv
    dsimp only
    have hview : s.Reaches strict False tidy (s.setView p (some (v.updated records s.timing.multiframe))) :=
      State.reaches_setView hv (PeerView.updated_circuit ..)
    have hmismatch := State.reaches_raiseIf (hview.premises hs)
      (match ((s.setView p (some (v.updated records s.timing.multiframe))).trunk p).binding with
        | some b => mismatchEdge v (v.updated records s.timing.multiframe) b
        | none => false) .peerMismatch (some p)
    exact (hview.trans hmismatch).trans (State.reaches_raiseIf ((hview.trans hmismatch).premises hs) _ _ _)

theorem State.reaches_acceptBeacon (hs : s.Premises strict tidy) (fromSite : Byte)
    (records : List (Option BeaconRecord)) : s.Reaches strict False tidy (s.acceptBeacon fromSite records) := by
  unfold State.acceptBeacon
  have hlearned : s.Reaches strict False tidy
      { s with link := { s.link with learnedPeer := some fromSite },
               timing := { s.timing with silenceCountdown := s.timing.silenceLimit * s.timing.beaconPeriod } } :=
    .quiet s rfl
  have hunusable := State.Reaches.foldlPremises
    (f := fun t (r : Option BeaconRecord) => if r.isNone then t.raise .linkFrame none else t)
    (fun t r ht => State.reaches_raiseIf ht _ _ _) records (hlearned.premises hs)
  exact (hlearned.trans hunusable).trans
    (State.Reaches.foldlPremises (fun u p hu => State.reaches_updateView _ _ hu p) _
      ((hlearned.trans hunusable).premises hs))

theorem State.reaches_beaconReceived (hs : s.Premises strict tidy) (payload : List Byte) :
    s.Reaches strict False tidy (s.beaconReceived payload) := by
  unfold State.beaconReceived
  split
  · exact State.reaches_raise hs _ _
  · split
    · exact State.reaches_acceptBeacon hs _ _
    · exact State.reaches_raise hs _ _

theorem State.reaches_takeBeaconFrame (hs : s.Premises strict tidy) :
    s.Reaches strict False tidy s.takeBeaconFrame := by
  unfold State.takeBeaconFrame
  split
  · exact State.reaches_onDue hs _ fun t ht =>
      (State.reaches_atUnitEnd ht fun hu => State.reaches_beaconReceived hu _).trans (State.reaches_goOnRetaking _)
  · exact .refl s

theorem State.reaches_endLingering (s : State) (p : Port) : s.Reaches strict load tidy (s.endLingering p) := by
  unfold State.endLingering
  split
  · rename_i hp _
    split
    · refine .ofPhaseMove p { s.trunk p with lingering := false } (.unlinger s p hp) rfl rfl fun h => ?_
      rw [hp] at h; contradiction
    · exact .refl s
  · exact .refl s

theorem State.reaches_beginBeacon (s : State) : s.Reaches strict load tidy s.beginBeacon :=
  (State.Reaches.quiet s (link := { s.link with transmitter := some s.beaconBytes, changeDue := false })
    (timing := { s.timing with beaconCountdown := s.timing.beaconPeriod }) rfl).trans
    (.foldl _ State.reaches_endLingering _ _)

theorem State.reaches_takeBeaconTransmit (hs : s.Premises strict tidy) :
    s.Reaches strict False tidy s.takeBeaconTransmit := by
  refine State.reaches_onDue hs _ fun t _ => ?_
  split
  · exact t.reaches_beginBeacon
  · exact .refl t

theorem State.reaches_takeBeaconExpiry (hs : s.Premises strict tidy) :
    s.Reaches strict False tidy s.takeBeaconExpiry := by
  refine State.reaches_onDue hs _ fun t _ => ?_
  split
  · exact .refl t
  · exact .quiet t rfl

/-! ## Fibre alarms (R155, R176) -/

theorem State.reaches_setFibreAlarm {p : Port} {b : Binding} (hb : (s.trunk p).binding = some b) (alarm : Bool) :
    s.Reaches strict load tidy (s.setFibreAlarm p b alarm) := by
  have hflag : s.Reaches strict load tidy
      (s.setTrunk p { s.trunk p with binding := some { b with fibreAlarm := alarm } }) :=
    State.reaches_setTrunk p
      ⟨rfl, .inr ⟨b, _, hb, rfl, rfl, rfl, rfl, rfl, rfl⟩, .inl, .inl, rfl⟩ id
  unfold State.setFibreAlarm
  dsimp only
  split
  · exact hflag.trans (State.reaches_reportChange _)
  · exact hflag

theorem State.reaches_followAlarm (old new : BitVec 64) (hs : s.Premises strict tidy) (p : Port) :
    s.Reaches strict False tidy (State.followAlarm old new s p) := by
  unfold State.followAlarm
  split
  · exact .refl s
  · rename_i b hb
    have hflag (alarm : Bool) := State.reaches_setFibreAlarm (strict := strict) (load := False) (tidy := tidy) hb alarm
    split
    · dsimp only
      split
      · exact (hflag true).trans (State.reaches_raise ((hflag true).premises hs) _ _)
      · exact hflag true
    · exact hflag false
    · exact .refl s

theorem State.reaches_alarmReceived (hs : s.Premises strict tidy) (payload : List Byte) :
    s.Reaches strict False tidy (s.alarmReceived payload) := by
  unfold State.alarmReceived
  split
  · exact State.reaches_raise hs _ _
  · rename_i set _
    have hset : s.Reaches strict False tidy { s with link := { s.link with alarmSet := set } } := .quiet s rfl
    exact hset.trans (State.Reaches.foldlPremises (fun u p hu => State.reaches_followAlarm _ _ hu p) _
      (hset.premises hs))

theorem State.reaches_takeAlarmFrame (hs : s.Premises strict tidy) :
    s.Reaches strict False tidy s.takeAlarmFrame := by
  unfold State.takeAlarmFrame
  split
  · exact State.reaches_onDue hs _ fun t ht =>
      (State.reaches_atUnitEnd ht fun hu => State.reaches_alarmReceived hu _).trans (State.reaches_goOnRetaking _)
  · exact .refl s

/-! ## Settling (log 1) -/

theorem State.reaches_setSync (s : State) (y : SyncState) : s.Reaches strict load tidy (s.setSync y) :=
  .quiet s (timing := { s.timing with sync := y }) rfl

theorem State.reaches_takeAdriftEntry (hs : s.Premises strict tidy) :
    s.Reaches strict False tidy s.takeAdriftEntry := by
  refine State.reaches_onDue hs _ fun t ht => ?_
  have hsync := t.reaches_setSync (strict := strict) (load := False) (tidy := tidy) .adrift
  exact hsync.trans (State.reaches_raise (hsync.premises ht) _ _)

theorem State.reaches_takePeerSilent (hs : s.Premises strict tidy) :
    s.Reaches strict False tidy s.takePeerSilent := by
  refine State.reaches_onDue hs _ fun t ht => ?_
  have hlink : t.Reaches strict False tidy { t with link := { t.link with learnedPeer := none } } := .quiet t rfl
  exact hlink.trans (State.reaches_raise (hlink.premises ht) _ _)

theorem State.reaches_takeFrameDiscard (hs : s.Premises strict tidy) :
    s.Reaches strict False tidy s.takeFrameDiscard :=
  State.reaches_onDue hs _ fun _ ht => State.reaches_discardFrame ht

theorem State.reaches_takeGapExpiry (hs : s.Premises strict tidy) :
    s.Reaches strict False tidy s.takeGapExpiry := by
  unfold State.takeGapExpiry
  split
  · exact .refl s
  · exact State.reaches_onDue hs _ fun _ ht => State.reaches_discardFrame ht

theorem State.reaches_take (hs : s.Premises strict tidy) (d : Due) : s.Reaches strict False tidy (s.take d) := by
  cases d with
  | mfsMiss => exact State.reaches_onDue hs _ fun t _ => t.reaches_setSync _
  | adriftEntry => exact State.reaches_takeAdriftEntry hs
  | boundary => exact State.reaches_takeBoundary hs
  | peerSilent => exact State.reaches_takePeerSilent hs
  | soakExpiry p => exact State.reaches_onStep hs _ fun t _ => t.reaches_commitRecord p
  | returnToBridged p => exact State.reaches_takeReturn hs p
  | autoStart p => exact State.reaches_takeAutoStart hs p
  | autoBridge p => exact State.reaches_takeAutoBridge hs p
  | arming p lead => exact State.reaches_takeArming hs p
  | releaseAtBoundary p => exact State.reaches_takeRelease hs p
  | rollStart p => exact State.reaches_takeRollStart hs
  | gapExpiry => exact State.reaches_takeGapExpiry hs
  | beaconCountdownExpiry => exact State.reaches_takeBeaconExpiry hs
  | beaconTransmit => exact State.reaches_takeBeaconTransmit hs
  | frameDiscard => exact State.reaches_takeFrameDiscard hs
  | beaconFrame payload => exact State.reaches_takeBeaconFrame hs
  | alarmFrame payload => exact State.reaches_takeAlarmFrame hs
  | frameIgnored => exact State.reaches_onDue hs _ fun t _ => t.reaches_goOnRetaking

theorem State.reaches_settleUpTo (fuel : Nat) (hs : s.Premises strict tidy) :
    s.Reaches strict False tidy (State.settleUpTo fuel s) := by
  induction fuel generalizing s with
  | zero => exact .refl s
  | succ fuel ih =>
    unfold State.settleUpTo
    split
    · rename_i t ht
      have hone : s.Reaches strict False tidy t := by
        unfold State.settleOne at ht
        split at ht
        · exact Option.some.inj ht ▸ State.reaches_take hs _
        · exact Option.some.inj ht ▸ State.reaches_serveAct hs _
        · obtain ⟨sw, -, rfl⟩ := Option.map_eq_some_iff.mp ht
          exact State.reaches_takeCompletion hs _
      exact hone.trans (ih (hone.premises hs))
    · exact .refl s

theorem State.reaches_settle (hs : s.Premises strict tidy) : s.Reaches strict False tidy s.settle :=
  (State.reaches_settleUpTo _ hs).trans (State.reaches_resume _)

/-! ## The rows of the port, the timing unit and the receiver -/

/-- The port classes a cycle after the load (R37). -/
theorem State.reaches_classCycle (c : BusCycle) (h : s.image.state ≠ .loading) :
    s.Reaches strict load tidy (s.classCycle c) := by
  unfold State.classCycle
  split
  · exact .ofMove (.cycle s _ fun hl => absurd hl h) rfl rfl
  · have hcycle : s.Reaches strict load tidy
        { s with port := { s.port with cycle := some { cycle := c, cls := some .store } } } :=
      .ofMove (.cycle s _ fun hl => absurd hl h) rfl rfl
    exact hcycle.trans (.ofMove (.arbiter _ { s.arbiter with waiting := some (cycleUnit c) } (.inr rfl)
      fun _ hl => absurd hl h) rfl rfl)

theorem State.reaches_takeCycle (s : State) (c : BusCycle) : s.Reaches strict load tidy (s.takeCycle c) := by
  unfold State.takeCycle
  split
  · exact .refl s
  · split
    · refine .ofMove (.cycle s _ fun _ h e => ?_) rfl rfl
      rw [← Option.some.inj e]
    · rename_i h
      exact State.reaches_classCycle c h

theorem State.reaches_unitStep (hs : s.Premises strict tidy) (test : StoreUnit → Bool) :
    s.Reaches strict False tidy (s.unitStep test) := by
  unfold State.unitStep
  have hsettle := State.reaches_settle hs
  split
  · exact (State.reaches_finishUnit hs).trans (State.reaches_resume _)
  · split
    · exact (hsettle.trans (State.reaches_finishUnit (hsettle.premises hs))).trans (State.reaches_resume _)
    · exact .refl s

theorem State.reaches_pulse (hs : s.Premises strict tidy) (mfs : Bool) :
    s.Reaches strict False tidy (s.pulse mfs) := by
  have hmfs : s.Reaches strict False tidy { s with
      timing := s.timing.awake.accept, due := s.due ++ s.timing.awake.accept.boundaryDue } := .quiet s rfl
  unfold State.pulse
  dsimp only
  split
  · split
    · exact hmfs.trans (State.reaches_raise (hmfs.premises hs) _ _)
    · exact hmfs
  · exact .quiet s rfl

theorem State.reaches_fsAbsent (hs : s.Premises strict tidy) : s.Reaches strict False tidy s.fsAbsent := by
  unfold State.fsAbsent
  split
  · exact .refl s
  · exact (s.reaches_setSync _).trans (State.reaches_raise ((s.reaches_setSync _).premises hs) _ _)

theorem State.reaches_takeCharacter (s : State) (c : Character) :
    s.Reaches strict load tidy (s.takeCharacter c) := by
  cases c with
  | byte b => exact s.reaches_received _ (PeerLink.takeByte_views ..)
  | inError =>
    simp only [State.takeCharacter]
    split
    · exact .refl s
    · exact s.reaches_received _ rfl

end Sys2Proof.Machine
end

section
/-! SUPPORT. IMAGE_LOAD as a chain of moves, and every row but POWER_ON_RESET. -/

namespace Sys2Proof.Machine

variable {strict load tidy : Prop} {s t : State}

/-! ## IMAGE_LOAD (R34, R35) -/

/-- A fault that carries a FREE record dispatches nothing while the store is free (R154, R185). -/
theorem State.raise_of_free {p : Port} (hp : s.phase p = .free) (hidle : s.arbiter.inProgress = none)
    (src : FaultSource) : s.raise src (some p) = s.recordOccurrence src (some p) := by
  have hfree : (s.recordOccurrence src (some p)).phase p = .free := by
    rw [State.phase, State.trunk_congr (State.recordOccurrence_trunks ..)]; exact hp
  unfold State.raise
  dsimp only
  split
  · rw [State.atUnitEnd_of_free _ (by rw [State.recordOccurrence_arbiter]; exact hidle)]
    simp [State.dispatchFallback, State.applyFallback, hfree]
  · rfl

/-- What the load leaves as it found it while it examines slot `p`: the other records and the arbiter. -/
theorem State.loadSlot_frame {p : Port} (hp : s.phase p = .free) (hidle : s.arbiter.inProgress = none) :
    (∀ q ≠ p, (s.loadSlot p).phase q = s.phase q) ∧ (s.loadSlot p).arbiter = s.arbiter := by
  have hraise : (∀ q ≠ p, (s.raise .imageRecord (some p)).phase q = s.phase q) ∧
      (s.raise .imageRecord (some p)).arbiter = s.arbiter := by
    rw [State.raise_of_free hp hidle]
    refine ⟨fun q _ => ?_, State.recordOccurrence_arbiter ..⟩
    rw [State.phase, State.trunk_congr (State.recordOccurrence_trunks ..)]; rfl
  unfold State.loadSlot
  split
  · exact ⟨fun _ _ => rfl, rfl⟩
  · exact hraise
  · split
    · refine ⟨fun q hq => ?_, rfl⟩
      exact (s.phase_setTrunk p q (installedRecord _ _ _)).trans (if_neg hq)
    · exact hraise

theorem State.reaches_loadSlot {p : Port} (htidy : tidy → strict) (hp : strict → s.phase p = .free)
    (hidle : strict → s.arbiter.inProgress = none) : s.Reaches strict True tidy (s.loadSlot p) := by
  have hraise : s.Reaches strict True tidy (s.raise .imageRecord (some p)) := by
    by_cases hstrict : strict
    · rw [State.raise_of_free (hp hstrict) (hidle hstrict)]
      exact s.reaches_recordOccurrence _ _
    · exact State.reaches_raise ⟨fun h => absurd h hstrict, fun h => absurd (htidy h) hstrict⟩ _ _
  unfold State.loadSlot
  split
  · exact .refl s
  · exact hraise
  · split
    · rename_i F m hinstallable
      refine ⟨.moves (.one (.install s p _ F m trivial hinstallable hp)), fun hstrict hi => ?_⟩
      refine hi.record p rfl (fun q hq => s.trunk_setTrunk_ne _ hq) fun h => ?_
      rw [hp hstrict] at h; contradiction
    · exact hraise

theorem State.reaches_loadSlots (htidy : tidy → strict) (ps : List Port) (hnodup : ps.Nodup)
    (hfree : strict → ∀ p ∈ ps, s.phase p = .free) (hidle : strict → s.arbiter.inProgress = none) :
    s.Reaches strict True tidy (ps.foldl State.loadSlot s) := by
  induction ps generalizing s with
  | nil => exact .refl s
  | cons p rest ih =>
    obtain ⟨hnotin, hrest⟩ := List.nodup_cons.mp hnodup
    refine (State.reaches_loadSlot htidy (fun h => hfree h p List.mem_cons_self) hidle).trans (ih hrest ?_ ?_)
    · intro h q hq
      rw [(State.loadSlot_frame (hfree h p List.mem_cons_self) (hidle h)).1 q fun e => hnotin (e ▸ hq)]
      exact hfree h q (List.mem_cons_of_mem p hq)
    · intro h
      rw [(State.loadSlot_frame (hfree h p List.mem_cons_self) (hidle h)).2]
      exact hidle h

theorem State.reaches_classHeld (h : s.image.state ≠ .loading) : s.Reaches strict load tidy s.classHeld := by
  unfold State.classHeld
  split
  · exact State.reaches_classCycle _ h
  · exact .refl s

/-! ## Every row -/

/-- Every row but POWER_ON_RESET goes on to a state that a chain of moves leads to; IMAGE_LOAD alone installs, after it
has settled. -/
theorem exec_reaches (hs : s.Premises strict tidy) (htidy : tidy → strict) (c : Instr)
    (hc : ∀ straps made, c ≠ .powerOnReset straps made) :
    ∃ load u t, exec c s = .next t ∧ s.Reaches strict False tidy u ∧ u.Reaches strict load tidy t ∧
      (strict → t.loadSound) := by
  have row {t : State} (h : s.Reaches strict False tidy t) :
      ∃ (load : Prop) (u t' : State), (.next t : Host.Outcome State Fault Refusal) = .next t' ∧
        s.Reaches strict False tidy u ∧ u.Reaches strict load tidy t' ∧ (strict → t'.loadSound) :=
    ⟨False, t, t, rfl, h, .refl t, (h.premises hs).load⟩
  have hsettle : s.Reaches strict False tidy s.settle := State.reaches_settle hs
  cases c with
  | powerOnReset straps made => exact absurd rfl (hc straps made)
  | processorCycle cycle => exact row ((hsettle.trans (State.reaches_takeCycle _ _)).trans (State.reaches_resume _))
  | processorWrite | processorRead | readStoreAccess | prepareUnit | censusUnit | bridgeUnit | rollUnit | unrollUnit
  | releaseUnit | unbridgeUnit => exact row (State.reaches_unitStep hs _)
  | channelRead => exact row (State.reaches_serveChannelRead hs)
  | parameterWord => exact row s.reaches_serveParameterWord
  | unknownCommand => exact row (State.reaches_serveUnknown hs)
  | commandWord => exact row s.reaches_serveCommandWord
  | status => exact row (State.reaches_serveCommand hs .status)
  | bind => exact row (State.reaches_serveCommand hs .bind)
  | unbind => exact row (State.reaches_serveCommand hs .unbind)
  | groups => exact row (State.reaches_serveCommand hs .groups)
  | lock => exact row (State.reaches_serveCommand hs .lock)
  | unlock => exact row (State.reaches_serveCommand hs .unlock)
  | pin => exact row (State.reaches_serveCommand hs .pin)
  | eraseImage => exact row (State.reaches_serveCommand hs .eraseImage)
  | start => exact row (State.reaches_serveCommand hs .start)
  | bridge => exact row (State.reaches_serveCommand hs .bridge)
  | roll => exact row (State.reaches_serveCommand hs .roll)
  | disarm => exact row (State.reaches_serveCommand hs .disarm)
  | release => exact row (State.reaches_serveCommand hs .release)
  | fallback => exact row (State.reaches_serveCommand hs .fallback)
  | abort => exact row (State.reaches_serveCommand hs .abort)
  | recensus => exact row (State.reaches_serveCommand hs .recensus)
  | auto => exact row (State.reaches_serveCommand hs .auto)
  | hold => exact row (State.reaches_serveCommand hs .hold)
  | clearHold => exact row (State.reaches_serveCommand hs .clearHold)
  | queryTrunk => exact row (State.reaches_serveCommand hs .queryTrunk)
  | queryFaults => exact row (State.reaches_serveCommand hs .queryFaults)
  | clearFaults => exact row (State.reaches_serveCommand hs .clearFaults)
  | setAction => exact row (State.reaches_serveCommand hs .setAction)
  | setTiming => exact row (State.reaches_serveCommand hs .setTiming)
  | readStore => exact row (State.reaches_serveCommand hs .readStore)
  | queryIndex => exact row (State.reaches_serveCommand hs .queryIndex)
  | close => exact row (State.reaches_serveCommand hs .close)
  | prepareCompletion | censusCompletion | bridgeCompletion | rollCompletion | unrollCompletion | releaseCompletion
  | unbridgeCompletion => exact row (State.reaches_takeCompletion hs _)
  | fsPulse mfs =>
    exact row ((hsettle.trans (State.reaches_pulse (hsettle.premises hs) mfs)).trans (State.reaches_resume _))
  | mfsMiss => exact row (State.reaches_take hs .mfsMiss)
  | adriftEntry => exact row (State.reaches_take hs .adriftEntry)
  | fsAbsence =>
    exact row ((hsettle.trans (State.reaches_fsAbsent (hsettle.premises hs))).trans (State.reaches_resume _))
  | multiframeBoundary => exact row (State.reaches_take hs .boundary)
  | soakExpiry p => exact row (State.reaches_take hs (.soakExpiry p))
  | autoStart p => exact row (State.reaches_take hs (.autoStart p))
  | autoBridge p => exact row (State.reaches_take hs (.autoBridge p))
  | arming p => exact row (State.reaches_takeArming hs p)
  | returnToBridged p => exact row (State.reaches_take hs (.returnToBridged p))
  | rollStart => exact row (State.reaches_takeRollStart hs)
  | releaseAtBoundary p => exact row (State.reaches_take hs (.releaseAtBoundary p))
  | beaconCountdownExpiry => exact row (State.reaches_take hs .beaconCountdownExpiry)
  | beaconTransmit => exact row (State.reaches_take hs .beaconTransmit)
  | transmitComplete =>
    exact row (hsettle.trans (.quiet _ (link := { s.settle.link with transmitter := none }) rfl))
  | peerSilent => exact row (State.reaches_take hs .peerSilent)
  | beaconFrame => exact row (State.reaches_takeBeaconFrame hs)
  | alarmFrame => exact row (State.reaches_takeAlarmFrame hs)
  | frameIgnored => exact row (State.reaches_take hs .frameIgnored)
  | frameDiscard => exact row (State.reaches_take hs .frameDiscard)
  | gapExpiry => exact row (State.reaches_take hs .gapExpiry)
  | imageProgrammed =>
    simp only [exec, execImageProgrammed]
    split
    · exact row (hsettle.trans (State.reaches_image _ _ (by simp)))
    · exact row (.refl s)
  | imageErased =>
    simp only [exec, execImageErased]
    split
    · exact row (hsettle.trans (State.reaches_image _ _ (by simp)))
    · exact row (.refl s)
  | imageLoad =>
    simp only [exec, execImageLoad]
    split
    · rename_i hloading
      have hslots : s.settle.Reaches strict True tidy (allPorts.foldl State.loadSlot s.settle) :=
        State.reaches_loadSlots htidy _ (List.nodup_finRange 64)
          (fun h p _ => ((hsettle.premises hs).load h hloading).1 p)
          (fun h => ((hsettle.premises hs).load h hloading).2.2.1)
      have hready := hslots.trans (State.reaches_image _ { (allPorts.foldl State.loadSlot s.settle).image with
        state := .ready } (by simp))
      have hdone {load : Prop} := (State.reaches_classHeld (strict := strict) (load := load) (tidy := tidy)
        (s := (allPorts.foldl State.loadSlot s.settle).setImageState .ready) (by simp)).trans (State.reaches_resume _)
      exact ⟨True, _, _, rfl, hsettle, hready.trans hdone, fun _ h =>
        absurd h ((hdone (load := False)).chain.notLoading (by simp))⟩
    · exact row (.refl s)
  | prst =>
    exact row (((hsettle.trans (State.reaches_finishUnit (hsettle.premises hs))).trans
      (.quiet _ (channel := initialChannel) rfl)).trans (State.reaches_resume _))
  | byteTaken character =>
    exact row ((hsettle.trans (State.reaches_takeCharacter _ _)).trans (State.reaches_resume _))

/-! ## What a step keeps -/

/-- The queue is read by no invariant. -/
theorem State.Premises.pending (hs : s.Premises strict tidy) (rest : List Instr) :
    ({ s with pending := rest } : State).Premises strict tidy := ⟨hs.load, hs.queue⟩

/-- A property that chains of moves keep, and that power-on values have, is kept by every step. -/
theorem step_keeps {P : State → Prop} (hs : s.Premises strict tidy) (htidy : tidy → strict)
    (hpending : ∀ rest, P s → P { s with pending := rest })
    (hchain : ∀ (load : Prop) (a b : State), a.Reaches strict load tidy b → P a → P b)
    (hreset : ∀ (u : State) straps made, P u → P (u.afterPowerOn straps made))
    (hP : P s) (hstep : step s = .next t) : P t := by
  unfold step at hstep
  split at hstep
  · cases hstep; exact hP
  · rename_i c rest _
    by_cases hc : ∃ straps made, c = .powerOnReset straps made
    · obtain ⟨straps, made, rfl⟩ := hc
      rw [exec_powerOnReset] at hstep
      have hpower := hreset { s with pending := rest } straps made (hpending rest hP)
      cases hstep
      split
      · exact hchain True _ _ (State.reaches_recordOccurrence _ _ _) hpower
      · exact hpower
    · obtain ⟨load, u, t', hexec, hu, ht, -⟩ := exec_reaches (hs.pending rest) htidy c (fun a b h => hc ⟨a, b, h⟩)
      rw [hexec] at hstep
      cases hstep
      exact hchain load _ _ ht (hchain False _ _ hu (hpending rest hP))

end Sys2Proof.Machine
end

section
/-! SUPPORT. The invariants that every step keeps: what one move does to each. -/

namespace Sys2Proof.Machine

variable {strict load tidy : Prop} {s t : State}

/-! ## Every row goes on (log 2, log 3) -/

theorem Move.pending_straps (m : Move strict load s t) : t.pending = s.pending ∧ t.straps = s.straps := by
  cases m with
  | same h => exact ⟨h.pending, h.straps⟩
  | occurrence src o => exact ⟨State.recordOccurrence_pending .., State.recordOccurrence_straps ..⟩
  | free p hp => unfold State.freeRecord; split <;> exact ⟨rfl, rfl⟩
  | start p hp hn => unfold State.startRecord State.joinAnnounced; split <;> exact ⟨rfl, rfl⟩
  | _ => exact ⟨rfl, rfl⟩

/-- Settles O2: every row is a chain of moves, none of which touches the queue or the straps. -/
theorem everyRowGoesOnAndHoldsTheStraps : Obligations.EveryRowGoesOnAndHoldsTheStraps := by
  intro c s
  have hchain {load : Prop} {a b : State} (h : a.Reaches False load False b) :
      b.pending = a.pending ∧ b.straps = a.straps :=
    h.chain.keeps (P := fun b => b.pending = a.pending ∧ b.straps = a.straps)
      (fun _ _ m h => ⟨m.pending_straps.1.trans h.1, m.pending_straps.2.trans h.2⟩) (fun _ _ h => h) ⟨rfl, rfl⟩
  by_cases hc : ∃ straps made, c = .powerOnReset straps made
  · obtain ⟨straps, made, rfl⟩ := hc
    refine ⟨_, exec_powerOnReset straps made s, ?_, fun h => absurd rfl (h straps made)⟩
    split
    · exact State.recordOccurrence_pending ..
    · rfl
  · obtain ⟨load, u, t, hexec, hu, ht, -⟩ := exec_reaches (strict := False) (tidy := False)
      ⟨False.elim, False.elim⟩ id c fun a b h => hc ⟨a, b, h⟩
    exact ⟨t, hexec, (hchain ht).1.trans (hchain hu).1, fun _ => (hchain ht).2.trans (hchain hu).2⟩

/-! ## The store, the collector and the allowance (R44, R180, R185) -/

theorem Move.storeSound (m : Move strict load s t) (hs : s.storeSound) : t.storeSound := by
  cases m with
  | same h => rw [State.storeSound, h.store]; exact hs
  | write x w => exact State.storeSound_writeWord x w hs
  | occurrence src o => rw [State.storeSound, State.recordOccurrence_store]; exact hs
  | free p hp => unfold State.freeRecord; split <;> exact hs
  | start p hp hn => unfold State.startRecord State.joinAnnounced; split <;> exact hs
  | _ => exact hs

theorem Move.allowanceSound (m : Move strict load s t) (hs : s.allowanceSound) : t.allowanceSound := by
  cases m with
  | same h => rw [State.allowanceSound, h.arbiter]; exact hs
  | arbiter a hn hl => exact hn.elim id fun h => Nat.le_trans (Nat.le_of_eq h) hs
  | occurrence src o => rw [State.allowanceSound, State.recordOccurrence_arbiter]; exact hs
  | free p hp => unfold State.freeRecord; split <;> exact hs
  | start p hp hn => unfold State.startRecord State.joinAnnounced; split <;> exact hs
  | _ => exact hs

/-- The collector is sound where each source is as it was, has one more occurrence, or has been set within bounds. -/
theorem State.collectorSound.ofSources (hs : s.collectorSound)
    (h : ∀ src, (t.source src).count ≤ 255 ∧
      (src = .fallbackBlocked → (t.source src).cls = .fallback → (s.source src).cls = .fallback)) :
    t.collectorSound :=
  ⟨fun src => (h src).1, fun hcls => hs.2 ((h _).2 rfl hcls)⟩

theorem Move.collectorSound (m : Move strict load s t) (hs : s.collectorSound) : t.collectorSound := by
  have same (h : t.faults.sources = s.faults.sources) : t.collectorSound :=
    hs.ofSources fun src => by rw [State.source_congr h]; exact ⟨hs.1 src, fun _ => id⟩
  cases m with
  | same h => exact same h.sources
  | occurrence src o =>
    refine hs.ofSources fun b => ?_
    rw [State.source_recordOccurrence]
    split
    · rename_i hb
      have := hs.1 src
      refine ⟨?_, fun _ h => hb ▸ h⟩
      unfold SourceState.occurred
      dsimp only
      split <;> omega
    · exact ⟨hs.1 b, fun _ => id⟩
  | source src f hc hf =>
    refine hs.ofSources fun b => ?_
    rw [State.source_setSource]
    split
    · rename_i hb
      exact ⟨hc.elim (fun h => h ▸ hs.1 src) fun h => h ▸ Nat.zero_le _, fun h => hb ▸ hf (hb ▸ h)⟩
    · exact ⟨hs.1 b, fun _ => id⟩
  | free p hp => exact same (by unfold State.freeRecord; split <;> rfl)
  | start p hp hn => exact same (by unfold State.startRecord State.joinAnnounced; split <;> rfl)
  | _ => exact same rfl

theorem canonical_foldl_insertWord (ws : List (Physical × Word)) {m : List (Nat × Word)} (h : Memory.wf m = true) :
    Memory.wf (ws.foldl (fun m xw => insertWord m xw.1.toNat xw.2) m) = true := by
  induction ws generalizing m with
  | nil => exact h
  | cons xw rest ih =>
    exact ih (canonicalFrom_insertWord h (Nat.zero_le _) xw.1.isLt)

theorem State.storeSound_afterPowerOn (hs : s.storeSound) (straps : Straps) (made : Nat) :
    (s.afterPowerOn straps made).storeSound := by
  show Memory.wf (s.storeCutShort made) = true
  unfold State.storeCutShort
  split
  · exact hs
  · exact canonical_foldl_insertWord _ hs

theorem State.collectorSound_afterPowerOn (s : State) (straps : Straps) (made : Nat) :
    (s.afterPowerOn straps made).collectorSound :=
  ⟨fun src => by rw [State.source_afterPowerOn]; exact Nat.zero_le _, by rw [State.source_afterPowerOn]; decide⟩

/-- Settles O54: each of the three is kept by every move, and holds of the power-on values. -/
theorem storeAndCountsStaySound : Obligations.StoreAndCountsStaySound := by
  intro s t hstore hcollector hallowance hstep
  refine step_keeps (strict := False) (tidy := False)
    (P := fun s => s.storeSound ∧ s.collectorSound ∧ s.allowanceSound) ⟨False.elim, False.elim⟩ id
    (fun _ h => h) (fun load a b h => ?_) (fun u straps made h => ?_) ⟨hstore, hcollector, hallowance⟩ hstep
  · exact h.chain.keeps (P := fun s => s.storeSound ∧ s.collectorSound ∧ s.allowanceSound)
      (fun _ _ m h => ⟨m.storeSound h.1, m.collectorSound h.2.1, m.allowanceSound h.2.2⟩)
      fun _ _ h => h
  · exact ⟨State.storeSound_afterPowerOn h.1 straps made, u.collectorSound_afterPowerOn straps made, Nat.zero_le _⟩

/-! ## The tables right after power-on reset -/

theorem State.trunk_reset (p : Port) : State.reset.trunk p = .freeRecord := by simp [State.trunk, State.reset]

theorem State.trunk_afterPowerOn (s : State) (straps : Straps) (made : Nat) (p : Port) :
    (s.afterPowerOn straps made).trunk p = .freeRecord := State.trunk_reset p

theorem State.phase_afterPowerOn (s : State) (straps : Straps) (made : Nat) (p : Port) :
    (s.afterPowerOn straps made).phase p = .free := by rw [State.phase, State.trunk_afterPowerOn]; rfl

theorem State.boundTo_afterPowerOn (s : State) (straps : Straps) (made : Nat) (F : FibrePort) :
    (s.afterPowerOn straps made).boundTo F = none := by simp [State.boundTo, State.afterPowerOn, State.reset]

theorem State.view_afterPowerOn (s : State) (straps : Straps) (made : Nat) (p : Port) :
    (s.afterPowerOn straps made).view p = none := by
  simp [State.view, State.afterPowerOn, State.reset, initialLink]

/-! ## Commit and PINNED (R27, R134) -/

/-- `State.commitSound` for one record. -/
def TrunkRecord.commitFits (r : TrunkRecord) : Prop :=
  (r.commit = true → r.phase = .rolled ∨ r.phase = .releasing ∨ r.phase = .migrated) ∧
    (r.lock = .pinned → r.phase = .migrated)

/-- A record in an early phase is neither committed nor PINNED, and stays so. -/
theorem TrunkRecord.commitFits.early {a b : TrunkRecord} {phase : Phase} (ha : a.commitFits) (ha' : a.phase = phase)
    (hphase : phase ≠ .rolled ∧ phase ≠ .releasing ∧ phase ≠ .migrated)
    (hcommit : b.commit = true → a.commit = true) (hlock : b.lock = a.lock) : b.commitFits := by
  obtain ⟨hrolled, hreleasing, hmigrated⟩ := ha' ▸ hphase
  refine ⟨fun h => ?_, fun h => absurd (ha.2 (hlock ▸ h)) hmigrated⟩
  rcases ha.1 (hcommit h) with h | h | h <;> contradiction

theorem State.commitSound.record (hs : s.commitSound) (p : Port) (hne : ∀ q ≠ p, t.trunk q = s.trunk q)
    (hp : (s.trunk p).commitFits → (t.trunk p).commitFits) : t.commitSound := by
  intro q
  show (t.trunk q).commitFits
  by_cases hq : q = p
  · rw [hq]; exact hp (hs p)
  · rw [hne q hq]; exact hs q

theorem Move.commitSound (m : Move strict load s t) (hs : s.commitSound) : t.commitSound := by
  have set (p : Port) (r : TrunkRecord) (hp : (s.trunk p).commitFits → r.commitFits) : (s.setTrunk p r).commitSound :=
    hs.record p (fun q hq => s.trunk_setTrunk_ne r hq) (by rw [State.trunk_setTrunk_self]; exact hp)
  have early (p : Port) (r : TrunkRecord) {phase : Phase} (hp : s.phase p = phase) (hk : (s.trunk p).Keeps r)
      (h : phase ≠ .rolled ∧ phase ≠ .releasing ∧ phase ≠ .migrated) : (s.setTrunk p r).commitSound :=
    set p r fun hfits => hfits.early hp h (fun hc => hk.commit ▸ hc) hk.lock
  cases m with
  | same h => exact fun p => by rw [State.phase, State.trunk_congr h.trunks]; exact hs p
  | occurrence src o =>
    exact fun p => by rw [State.phase, State.trunk_congr (State.recordOccurrence_trunks ..)]; exact hs p
  | record p r h =>
    refine set p r fun hfits => ⟨fun hc => ?_, fun hl => ?_⟩ <;> rw [h.phase]
    · exact (h.commit hc).elim hfits.1 .inl
    · exact (h.lock hl).elim hfits.2 id
  | bind p b hp =>
    exact set p _ fun hfits => hfits.early hp (by decide) (nomatch ·) rfl
  | free p hp =>
    refine hs.record p (fun q hq => ?_) fun _ => ?_
    · unfold State.freeRecord; split <;> exact State.trunk_setTrunk_ne _ _ hq
    · have hfree : (s.freeRecord p).trunk p = .freeRecord := by
        unfold State.freeRecord; split <;> exact State.trunk_setTrunk_self ..
      rw [hfree]; exact ⟨nofun, nofun⟩
  | start p hp hn =>
    have hbound := ((TrunkRecord.preparedBound_iff _).mp hp).1
    have := early p { s.trunk p with phase := .census } hbound ⟨rfl, rfl, rfl, rfl⟩ (by decide)
    unfold State.startRecord State.joinAnnounced
    split <;> exact this
  | bridge p r hp _ _ hk => exact early p r hp hk (by decide)
  | arm p r hp _ _ hk => exact early p r hp hk (by decide)
  | disarm p r hp _ hk => exact early p r hp hk (by decide)
  | roll p r hp _ hk => exact early p r hp hk (by decide)
  | release p r hp hr hk =>
    refine set p r fun hfits => ⟨fun _ => .inr (.inl hr), fun hl => ?_⟩
    exact absurd (hp.symm.trans (hfits.2 (hk.lock ▸ hl))) (by decide)
  | unrollRolling p r hp _ hk => exact early p r hp hk (by decide)
  | unrollRolled p r hp hc _ hk =>
    refine set p r fun hfits => ⟨fun h => ?_, fun hl => ?_⟩
    · rw [hk.commit, hc] at h; contradiction
    · exact absurd (hp.symm.trans (hfits.2 (hk.lock ▸ hl))) (by decide)
  | unbridge p r hp _ _ hk => rcases hp with hp | hp | hp <;> exact early p r hp hk (by decide)
  | unrolledToUnbridge p r hp _ _ hk => exact early p r hp hk (by decide)
  | prepared p _ => exact set p _ id
  | onward p r _ hp hk => rcases hp with ⟨hp, _⟩ | ⟨hp, _⟩ | ⟨hp, _⟩ <;> exact early p r hp hk (by decide)
  | rolled p r _ hp hr hc _ hl =>
    exact set p r fun hfits => hfits.early hp (by decide) (fun h => by rw [hc] at h; contradiction) hl
  | migrated p r _ _ hr => exact set p r fun _ => ⟨fun _ => .inr (.inr hr), fun _ => hr⟩
  | bound p r _ hp _ hk => rcases hp with hp | hp | hp <;> exact early p r hp hk (by decide)
  | unlinger p hp => exact set p _ id
  | install p c F m => exact set p _ fun _ => ⟨fun _ => .inr (.inr rfl), fun _ => rfl⟩
  | _ => exact hs

/-- Settles O55: every move keeps it, whatever else the state is. -/
theorem committedAndPinnedRecordsStayForward : Obligations.CommittedAndPinnedRecordsStayForward := by
  intro s t hs hstep
  refine step_keeps (strict := False) (tidy := False) (P := State.commitSound) ⟨False.elim, False.elim⟩ id
    (fun _ h => h) (fun load a b h => ?_) (fun u straps made _ p => ?_) hs hstep
  · exact h.chain.keeps (fun _ _ m => m.commitSound) fun _ _ h => h
  · rw [State.phase, State.trunk_afterPowerOn]; exact ⟨nofun, nofun⟩

/-! ## The trunk table and the fibre binding table (R18, R19) -/

/-- The items of a binding that the tables agree on: all but its flags. -/
def Binding.agrees (a b : Binding) : Prop :=
  b.fibre = a.fibre ∧ b.circuit = a.circuit ∧ b.map = a.map ∧ b.digest = a.digest

/-- Two records bound alike: neither, or both to the same port, circuit and map. -/
def TrunkRecord.boundAlike (a b : TrunkRecord) : Prop :=
  (b.phase = .free ↔ a.phase = .free) ∧
    ((a.binding = none ∧ b.binding = none) ∨ ∃ x y, a.binding = some x ∧ b.binding = some y ∧ x.agrees y)

theorem TrunkRecord.boundAlike.ofEq {a b : TrunkRecord} (hphase : b.phase = .free ↔ a.phase = .free)
    (hbinding : b.binding = a.binding) : a.boundAlike b := by
  refine ⟨hphase, ?_⟩
  rw [hbinding]
  cases a.binding with
  | none => exact .inl ⟨rfl, rfl⟩
  | some x => exact .inr ⟨x, x, rfl, rfl, rfl, rfl, rfl, rfl⟩

/-- A binding of the later record comes from one of the earlier. -/
theorem TrunkRecord.boundAlike.binding_of {a b : TrunkRecord} (h : a.boundAlike b) {y : Binding}
    (hy : b.binding = some y) : ∃ x, a.binding = some x ∧ x.agrees y := by
  rcases h.2 with ⟨-, hb⟩ | ⟨x, y', hx, hy', hagrees⟩
  · rw [hb] at hy; contradiction
  · obtain rfl := Option.some.inj (hy.symm.trans hy')
    exact ⟨x, hx, hagrees⟩

theorem State.bindingSound.congr (hs : s.bindingSound) (h : ∀ p, (s.trunk p).boundAlike (t.trunk p))
    (htable : ∀ F, t.boundTo F = s.boundTo F) : t.bindingSound := by
  obtain ⟨hfree, hmap, hentry, hcircuit⟩ := hs
  refine ⟨fun p => ?_, fun p b hb => ?_, fun F p hF => ?_, fun p q b c hb hc heq => ?_⟩
  · rw [State.phase, (h p).1, ← State.phase, hfree p]
    rcases (h p).2 with ⟨ha, hb⟩ | ⟨x, y, hx, hy, -⟩
    · simp [ha, hb]
    · simp [hx, hy]
  · obtain ⟨x, hx, hfibre, -, hmapEq, hdigest⟩ := (h p).binding_of hb
    obtain ⟨hvalid, hdig, hto⟩ := hmap p x hx
    rw [hfibre, hmapEq, hdigest, htable]
    exact ⟨hvalid, hdig, hto⟩
  · obtain ⟨x, hx, hxF⟩ := hentry F p (htable F ▸ hF)
    rcases (h p).2 with ⟨ha, -⟩ | ⟨x', y, hx', hy, hagrees⟩
    · rw [ha] at hx; contradiction
    · obtain rfl := Option.some.inj (hx.symm.trans hx')
      exact ⟨y, hy, hagrees.1.trans hxF⟩
  · obtain ⟨x, hx, -, hxc, -⟩ := (h p).binding_of hb
    obtain ⟨y, hy, -, hyc, -⟩ := (h q).binding_of hc
    exact hcircuit p q x y hx hy (hxc ▸ hyc ▸ heq)

/-- A table that is all FREE agrees with a fibre binding table that names none. -/
theorem State.bindingSound_of_free (hfree : ∀ p, s.trunk p = .freeRecord) (htable : ∀ F, s.boundTo F = none) :
    s.bindingSound := by
  refine ⟨fun p => ?_, fun p b hb => ?_, fun F p hF => ?_, fun p q b c hb => ?_⟩
  · rw [State.phase, hfree]; exact ⟨fun _ => rfl, fun _ => rfl⟩
  · rw [hfree] at hb; contradiction
  · rw [htable] at hF; contradiction
  · rw [hfree] at hb; contradiction

/-- A FREE record takes a binding whose fibre port and circuit no record holds. -/
theorem State.bindingSound.bound (hs : s.bindingSound) {p : Port} {b : Binding} (hfree : s.phase p = .free)
    (hport : s.boundTo b.fibre = none) (hheld : s.circuitHeld b.circuit = false) (hvalid : validMap b.map = true)
    (hdigest : b.digest = mapDigest b.map) (hbinding : (t.trunk p).binding = some b) (hphase : t.phase p ≠ .free)
    (hne : ∀ q ≠ p, t.trunk q = s.trunk q)
    (htable : ∀ F, t.boundTo F = if F = b.fibre then some p else s.boundTo F) : t.bindingSound := by
  have hnone : (s.trunk p).binding = none := (hs.1 p).mp hfree
  obtain ⟨hfreeIff, hmap, hentry, hcircuit⟩ := hs
  refine ⟨fun q => ?_, fun q c hc => ?_, fun F q hF => ?_, fun q r c d hc hd heq => ?_⟩
  · by_cases hq : q = p
    · rw [hq, hbinding]; simp [hphase]
    · rw [State.phase, hne q hq]; exact hfreeIff q
  · by_cases hq : q = p
    · rw [hq, hbinding] at hc
      obtain rfl := Option.some.inj hc
      exact ⟨hvalid, hdigest, by rw [htable, if_pos rfl, hq]⟩
    · rw [hne q hq] at hc
      obtain ⟨h1, h2, h3⟩ := hmap q c hc
      refine ⟨h1, h2, ?_⟩
      rw [htable, if_neg (fun e => by rw [e, hport] at h3; contradiction)]
      exact h3
  · rw [htable] at hF
    split at hF
    · rename_i hFb
      obtain rfl := Option.some.inj hF
      exact ⟨b, hbinding, hFb.symm⟩
    · obtain ⟨c, hc, hcF⟩ := hentry F q hF
      have hq : q ≠ p := fun e => by rw [e, hnone] at hc; contradiction
      exact ⟨c, (hne q hq).symm ▸ hc, hcF⟩
  · have hother {q : Port} {c : Binding} (hq : q ≠ p) (hc : (t.trunk q).binding = some c) : c.circuit ≠ b.circuit :=
      State.circuit_ne_of_not_held hheld (hne q hq ▸ hc)
    by_cases hq : q = p <;> by_cases hr : r = p
    · rw [hq, hr]
    · rw [hq, hbinding] at hc
      exact absurd ((Option.some.inj hc).symm ▸ heq).symm (hother hr hd)
    · rw [hr, hbinding] at hd
      exact absurd ((Option.some.inj hd).symm ▸ heq) (hother hq hc)
    · exact hcircuit q r c d (hne q hq ▸ hc) (hne r hr ▸ hd) heq

/-- A BOUND record becomes FREE, its entry in the fibre binding table none (R25). -/
theorem State.bindingSound.freeRecord (hs : s.bindingSound) {p : Port} (hp : s.phase p = .bound) :
    (s.freeRecord p).bindingSound := by
  obtain ⟨hfree, hmap, hentry, hcircuit⟩ := hs
  obtain ⟨b, hb⟩ : ∃ b, (s.trunk p).binding = some b := by
    rw [← Option.ne_none_iff_exists', Ne, ← hfree p, hp]; decide
  have hself : (s.freeRecord p).trunk p = .freeRecord := by
    unfold State.freeRecord; split <;> exact State.trunk_setTrunk_self ..
  have hne (q : Port) (hq : q ≠ p) : (s.freeRecord p).trunk q = s.trunk q := by
    unfold State.freeRecord; split <;> exact State.trunk_setTrunk_ne _ _ hq
  have hbound {q : Port} {c : Binding} (hc : ((s.freeRecord p).trunk q).binding = some c) :
      q ≠ p ∧ (s.trunk q).binding = some c := by
    have hq : q ≠ p := fun e => by rw [e, hself] at hc; contradiction
    exact ⟨hq, hne q hq ▸ hc⟩
  have htable (F : FibrePort) : (s.freeRecord p).boundTo F = if F = b.fibre then none else s.boundTo F := by
    rw [← State.boundTo_setBoundTo]; unfold State.freeRecord; rw [hb]; rfl
  refine ⟨fun q => ?_, fun q c hc => ?_, fun F q hF => ?_, fun q r c d hc hd => ?_⟩
  · by_cases hq : q = p
    · rw [State.phase, hq, hself]; exact ⟨fun _ => rfl, fun _ => rfl⟩
    · rw [State.phase, hne q hq]; exact hfree q
  · obtain ⟨hq, hc⟩ := hbound hc
    obtain ⟨h1, h2, h3⟩ := hmap q c hc
    refine ⟨h1, h2, ?_⟩
    rw [htable, if_neg fun e => ?_]
    · exact h3
    · rw [e, (hmap p b hb).2.2] at h3
      exact hq (Option.some.inj h3).symm
  · rw [htable] at hF
    split at hF
    · contradiction
    · rename_i hFb
      obtain ⟨c, hc, hcF⟩ := hentry F q hF
      have hq : q ≠ p := fun e => by
        rw [e, hb] at hc
        exact hFb (Option.some.inj hc ▸ hcF).symm
      exact ⟨c, (hne q hq).symm ▸ hc, hcF⟩
  · exact hcircuit q r c d (hbound hc).2 (hbound hd).2

/-- What the load tests of a slot that it installs (R34). -/
theorem State.installable_eq_some {p : Port} {c : SlotRecord} {F : FibrePort} {m : ChannelMap}
    (h : s.installable p c = some (F, m)) :
    validMap m = true ∧ s.boundTo F = none ∧ s.circuitHeld c.circuit = false := by
  unfold State.installable at h
  split at h
  · contradiction
  split at h
  · split at h
    · rename_i htests
      simp only [Bool.and_eq_true, Option.isNone_iff_eq_none, Bool.not_eq_true'] at htests
      obtain ⟨rfl, rfl⟩ := Prod.mk.inj (Option.some.inj h)
      exact ⟨htests.1.1, htests.1.2, htests.2⟩
    · contradiction
  · contradiction

theorem Move.bindingSound (m : Move strict load s t) (hload : load → strict) (hs : s.bindingSound) :
    t.bindingSound := by
  have same (htrunks : t.trunks = s.trunks) (htable : t.fibreTable = s.fibreTable) : t.bindingSound :=
    hs.congr (fun p => .ofEq (by rw [State.trunk_congr htrunks]) (by rw [State.trunk_congr htrunks]))
      fun F => by rw [State.boundTo, htable]; rfl
  have set (p : Port) {r : TrunkRecord} (h : (s.trunk p).boundAlike r)
      (htrunks : t.trunks = (s.setTrunk p r).trunks) (htable : t.fibreTable = s.fibreTable) : t.bindingSound := by
    refine hs.congr (fun q => ?_) fun F => by rw [State.boundTo, htable]; rfl
    rw [State.trunk_congr htrunks, State.trunk_setTrunk]
    split
    · rename_i hq; rw [hq]; exact h
    · exact .ofEq Iff.rfl rfl
  have move (p : Port) {r : TrunkRecord} {phase phase' : Phase} (hp : s.phase p = phase) (hr : r.phase = phase')
      (hb : r.binding = (s.trunk p).binding) (h : phase ≠ .free ∧ phase' ≠ .free)
      (htrunks : t.trunks = (s.setTrunk p r).trunks) (htable : t.fibreTable = s.fibreTable) : t.bindingSound := by
    refine set p (.ofEq ?_ hb) htrunks htable
    rw [hr, show (s.trunk p).phase = phase from hp]
    exact ⟨fun e => absurd e h.2, fun e => absurd e h.1⟩
  cases m with
  | same h => exact same h.trunks h.fibreTable
  | occurrence src o => exact same (State.recordOccurrence_trunks ..) (State.recordOccurrence_fibreTable ..)
  | record p r h =>
    refine set p ⟨by rw [h.phase], h.binding.imp id ?_⟩ rfl rfl
    rintro ⟨x, y, hx, hy, hlike⟩
    exact ⟨x, y, hx, hy, hlike.1, hlike.2.1, hlike.2.2.1, hlike.2.2.2.1⟩
  | bind p b hp ht hc hm hd =>
    refine hs.bound hp ht hc hm hd ?_ ?_ (fun q hq => s.trunk_setTrunk_ne _ hq) fun F => State.boundTo_setBoundTo ..
    · show ((s.setTrunk p _).trunk p).binding = _
      rw [State.trunk_setTrunk_self]; rfl
    · show ((s.setTrunk p _).trunk p).phase ≠ _
      rw [State.trunk_setTrunk_self]; simp [TrunkRecord.madeBound]
  | free p hp => exact hs.freeRecord hp
  | start p hp hn =>
    have hbound := ((TrunkRecord.preparedBound_iff _).mp hp).1
    refine move p (r := { s.trunk p with phase := .census }) (phase' := .census) hbound rfl rfl (by decide) ?_ ?_ <;>
      (unfold State.startRecord State.joinAnnounced; split <;> rfl)
  | bridge p r hp _ hr hk => exact move p hp hr hk.binding (by decide) rfl rfl
  | arm p r hp _ hr hk => exact move p hp hr hk.binding (by decide) rfl rfl
  | disarm p r hp hr hk => exact move p hp hr hk.binding (by decide) rfl rfl
  | roll p r hp hr hk => exact move p hp hr hk.binding (by decide) rfl rfl
  | release p r hp hr hk => exact move p hp hr hk.binding (by decide) rfl rfl
  | unrollRolling p r hp hr hk => exact move p hp hr hk.binding (by decide) rfl rfl
  | unrollRolled p r hp _ hr hk => exact move p hp hr hk.binding (by decide) rfl rfl
  | unbridge p r hp _ hr hk =>
    rcases hp with hp | hp | hp <;> exact move p hp hr hk.binding (by decide) rfl rfl
  | unrolledToUnbridge p r hp _ hr hk => exact move p hp hr hk.binding (by decide) rfl rfl
  | prepared p _ =>
    refine set p (r := { s.trunk p with
      binding := (s.trunk p).binding.map (fun b => { b with prepared := true }) }) ⟨Iff.rfl, ?_⟩ rfl rfl
    cases h : (s.trunk p).binding with
    | none => exact .inl ⟨rfl, rfl⟩
    | some b => exact .inr ⟨b, { b with prepared := true }, rfl, rfl, rfl, rfl, rfl, rfl⟩
  | onward p r _ hp hk =>
    rcases hp with ⟨hp, hr⟩ | ⟨hp, hr⟩ | ⟨hp, hr⟩ <;> exact move p hp hr hk.binding (by decide) rfl rfl
  | rolled p r _ hp hr _ hb => exact move p hp hr hb (by decide) rfl rfl
  | migrated p r _ hp hr _ hb => exact move p hp hr hb (by decide) rfl rfl
  | bound p r _ hp hr hk => rcases hp with hp | hp | hp <;> exact move p hp hr hk.binding (by decide) rfl rfl
  | unlinger p hp => exact move p (r := { s.trunk p with lingering := false }) hp hp rfl (by decide) rfl rfl
  | install p c F m hl hi hf =>
    obtain ⟨hvalid, hport, hheld⟩ := State.installable_eq_some hi
    refine hs.bound (b := ⟨F, c.circuit, m, mapDigest m, true, false⟩) (hf (hload hl)) hport hheld hvalid rfl ?_ ?_
      (fun q hq => s.trunk_setTrunk_ne _ hq) fun G => State.boundTo_setBoundTo ..
    · show ((s.setTrunk p _).trunk p).binding = _
      rw [State.trunk_setTrunk_self]; rfl
    · show ((s.setTrunk p _).trunk p).phase ≠ _
      rw [State.trunk_setTrunk_self]; simp [installedRecord]
  | _ => exact same rfl rfl

/-! ## The conditions of the load (R34, R36, R55) -/

theorem State.loadSound_afterPowerOn (s : State) (straps : Straps) (made : Nat) :
    (s.afterPowerOn straps made).loadSound := by
  refine fun _ => ⟨s.phase_afterPowerOn straps made, rfl, rfl, rfl, fun h hh => ?_⟩
  obtain ⟨k, -, rfl⟩ := Option.map_eq_some_iff.mp (show s.port.cycle.map _ = some h from hh)
  rfl

theorem step_loadSound (hs : s.loadSound) (hstep : step s = .next t) : t.loadSound := by
  unfold step at hstep
  split at hstep
  · cases hstep; exact hs
  · rename_i c rest _
    by_cases hc : ∃ straps made, c = .powerOnReset straps made
    · obtain ⟨straps, made, rfl⟩ := hc
      rw [exec_powerOnReset] at hstep
      cases hstep
      split
      · exact (Moves.one (.occurrence _ _ _)).loadSound (State.loadSound_afterPowerOn _ _ _)
      · exact State.loadSound_afterPowerOn _ _ _
    · obtain ⟨load, u, t', hexec, -, -, ht⟩ := exec_reaches (s := { s with pending := rest }) (strict := True)
        (tidy := False) ⟨fun _ => hs, False.elim⟩ False.elim c fun a b h => hc ⟨a, b, h⟩
      rw [hexec] at hstep
      cases hstep
      exact ht trivial

/-- Settles O56: moves keep the agreement of the tables, the installing of a slot for a FREE record by what the load
tests, and the load ends with an image that is READY. -/
theorem bindingTablesStayInAgreement : Obligations.BindingTablesStayInAgreement := by
  intro s t hbinding hload hstep
  refine ⟨step_keeps (strict := True) (tidy := False) (P := State.bindingSound) ⟨fun _ => hload, False.elim⟩
    False.elim (fun _ h => h) (fun load a b h => ?_) (fun u straps made _ =>
      State.bindingSound_of_free (u.trunk_afterPowerOn straps made) (u.boundTo_afterPowerOn straps made)) hbinding hstep,
    step_loadSound hload hstep⟩
  exact h.chain.keeps (fun _ _ m => m.bindingSound fun _ => trivial) fun _ _ h => h

/-! ## The armed list (R115) -/

/-- The armed list after moves that leave the other records: `p` is in it exactly when it is ARMED now. -/
theorem State.armedSound.record (hs : s.armedSound) (p : Port) (hne : ∀ q ≠ p, t.trunk q = s.trunk q)
    (hnodup : t.armedList.Nodup) (hother : ∀ q ≠ p, q ∈ t.armedList ↔ q ∈ s.armedList)
    (hp : p ∈ t.armedList ↔ t.phase p = .armed) : t.armedSound := by
  refine ⟨hnodup, fun q => ?_⟩
  by_cases hq : q = p
  · rw [hq]; exact hp
  · rw [hother q hq, hs.2 q, State.phase, State.phase, hne q hq]

theorem Move.armedSound (m : Move strict load s t) (hload : load → strict) (hs : s.armedSound) : t.armedSound := by
  have stays (p : Port) {r : TrunkRecord} (h : r.phase = .armed ↔ s.phase p = .armed)
      (htrunks : t.trunks = (s.setTrunk p r).trunks) (hlist : t.armedList = s.armedList) : t.armedSound := by
    have htrunk (q : Port) := State.trunk_congr htrunks q
    refine hs.record p (fun q hq => (htrunk q).trans (s.trunk_setTrunk_ne r hq)) (hlist ▸ hs.1)
      (fun q _ => by rw [hlist]) ?_
    rw [hlist, State.phase, htrunk, State.trunk_setTrunk_self, h]; exact hs.2 p
  have leaves (p : Port) {r : TrunkRecord} (h : r.phase ≠ .armed)
      (htrunks : t.trunks = (s.setTrunk p r).trunks) (hlist : t.armedList = s.armedList.erase p) : t.armedSound := by
    have htrunk (q : Port) := State.trunk_congr htrunks q
    refine hs.record p (fun q hq => (htrunk q).trans (s.trunk_setTrunk_ne r hq)) (hlist ▸ hs.1.erase p)
      (fun q hq => by rw [hlist, List.mem_erase_of_ne hq]) ?_
    rw [hlist, State.phase, htrunk, State.trunk_setTrunk_self]
    exact ⟨fun hm => absurd hm hs.1.not_mem_erase, fun e => absurd e h⟩
  have never (p : Port) {r : TrunkRecord} {phase phase' : Phase} (hp : s.phase p = phase) (hr : r.phase = phase')
      (h : phase ≠ .armed ∧ phase' ≠ .armed) (htrunks : t.trunks = (s.setTrunk p r).trunks)
      (hlist : t.armedList = s.armedList) : t.armedSound :=
    stays p (r := r) (by rw [hp, hr]; exact ⟨fun e => absurd e h.2, fun e => absurd e h.1⟩) htrunks hlist
  cases m with
  | same h =>
    exact ⟨h.armedList ▸ hs.1, fun p => by rw [h.armedList, State.phase, State.trunk_congr h.trunks]; exact hs.2 p⟩
  | occurrence src o =>
    refine ⟨State.recordOccurrence_armedList s src o ▸ hs.1, fun p => ?_⟩
    rw [State.recordOccurrence_armedList, State.phase, State.trunk_congr (State.recordOccurrence_trunks ..)]
    exact hs.2 p
  | record p r h => exact stays p (by rw [h.phase]; rfl) rfl rfl
  | bind p b hp =>
    exact never p (r := (s.trunk p).madeBound b) hp (phase' := .bound) rfl (by decide) rfl rfl
  | free p hp =>
    refine never p (r := .freeRecord) hp (phase' := .free) rfl (by decide) ?_ ?_ <;>
      (unfold State.freeRecord; split <;> rfl)
  | start p hp hn =>
    have hbound := ((TrunkRecord.preparedBound_iff _).mp hp).1
    refine never p (r := { s.trunk p with phase := .census }) hbound (phase' := .census) rfl (by decide) ?_ ?_ <;>
      (unfold State.startRecord State.joinAnnounced; split <;> rfl)
  | bridge p r hp _ hr => exact never p hp hr (by decide) rfl rfl
  | arm p r hp _ hr =>
    have hnotin : p ∉ s.armedList := fun h => absurd (hp.symm.trans ((hs.2 p).mp h)) (by decide)
    refine hs.record p (fun q hq => s.trunk_setTrunk_ne r hq) ?_ (fun q hq => ?_) ?_
    · exact List.nodup_append.mpr ⟨hs.1, List.nodup_cons.mpr ⟨List.not_mem_nil, List.nodup_nil⟩, fun a ha b hb e =>
        hnotin (List.mem_singleton.mp hb ▸ e ▸ ha)⟩
    · simp [hq]
    · show p ∈ s.armedList ++ [p] ↔ (s.setTrunk p r).phase p = .armed
      rw [State.phase, State.trunk_setTrunk_self, hr]
      simp
  | disarm p r hp hr => exact leaves p (r := r) (by rw [hr]; decide) rfl rfl
  | roll p r hp hr => exact leaves p (r := r) (by rw [hr]; decide) rfl rfl
  | release p r hp hr => exact never p hp hr (by decide) rfl rfl
  | unrollRolling p r hp hr => exact never p hp hr (by decide) rfl rfl
  | unrollRolled p r hp _ hr => exact never p hp hr (by decide) rfl rfl
  | unbridge p r hp _ hr => exact leaves p (r := r) (by rw [hr]; decide) rfl rfl
  | unrolledToUnbridge p r hp _ hr => exact never p hp hr (by decide) rfl rfl
  | prepared p _ =>
    exact stays p (r := { s.trunk p with
      binding := (s.trunk p).binding.map (fun b => { b with prepared := true }) }) Iff.rfl rfl rfl
  | onward p r _ hp =>
    rcases hp with ⟨hp, hr⟩ | ⟨hp, hr⟩ | ⟨hp, hr⟩ <;> exact never p hp hr (by decide) rfl rfl
  | rolled p r _ hp hr => exact never p hp hr (by decide) rfl rfl
  | migrated p r _ hp hr => exact never p hp hr (by decide) rfl rfl
  | bound p r _ hp hr => rcases hp with hp | hp | hp <;> exact never p hp hr (by decide) rfl rfl
  | unlinger p hp => exact stays p (r := { s.trunk p with lingering := false }) Iff.rfl rfl rfl
  | install p c F m hl hi hf =>
    exact never p (r := installedRecord c F m) (hf (hload hl)) (phase' := .migrated) rfl (by decide) rfl rfl
  | _ => exact hs

/-- Settles O57: on a sound queue every row is a chain of moves, each of which keeps the queue and the armed list. -/
theorem queueAndArmedListStaySound : Obligations.QueueAndArmedListStaySound := by
  intro s t hsweeps harmed hload hstep
  refine step_keeps (strict := True) (tidy := True) (P := fun s => s.sweepsSound ∧ s.armedSound)
    ⟨fun _ => hload, fun _ => hsweeps⟩ id (fun _ h => h) (fun load a b h => ?_) (fun u straps made _ => ?_)
    ⟨hsweeps, harmed⟩ hstep
  · exact (h.chain.toMoves trivial).keeps (P := fun s => s.sweepsSound ∧ s.armedSound)
      (fun _ _ m h => ⟨m.sweepsSound (fun _ => trivial) h.1, m.armedSound (fun _ => trivial) h.2⟩)
  · refine ⟨⟨List.nodup_nil, nofun, List.Pairwise.nil⟩, List.nodup_nil, fun p => ?_⟩
    rw [State.phase_afterPowerOn]; exact ⟨nofun, nofun⟩

/-! ## The listener index (R57 to R61) -/

/-- Settles O60: every chain of moves of the part keeps the index sound, and power-on reset empties it. -/
theorem listenerIndexStaysSound : Obligations.ListenerIndexStaysSound := by
  intro s t hindex hload hstep
  exact step_keeps (strict := True) (tidy := False) (P := State.indexSound) ⟨fun _ => hload, False.elim⟩ False.elim
    (fun _ h => h) (fun load a b h => h.index trivial) (fun u straps made _ => ⟨Nat.zero_le _, List.nodup_nil, nofun⟩)
    hindex hstep

end Sys2Proof.Machine
end

section
/-! SUPPORT. The announced set (R116, R169): each move keeps it within 8 records, each with a view of its circuit. -/

namespace Sys2Proof.Machine

variable {strict load tidy : Prop} {s t : State}

/-- Whether a record is announced (R116). -/
def TrunkRecord.announces (r : TrunkRecord) : Bool := r.phase.indexActive || (r.phase = .migrated && r.lingering)

theorem State.announced_eq (s : State) (p : Port) : s.announced p = (s.trunk p).announces := rfl

theorem TrunkRecord.announces_of_active {r : TrunkRecord} {phase : Phase} (h : r.phase = phase)
    (hactive : phase.indexActive = true) : r.announces = true := by
  rw [TrunkRecord.announces, h, hactive]; rfl

theorem TrunkRecord.not_announces {r : TrunkRecord} {phase : Phase} (h : r.phase = phase)
    (hactive : phase.indexActive = false) (hmigrated : phase ≠ .migrated) : r.announces = false := by
  simp [TrunkRecord.announces, h, hactive, hmigrated]

/-- The circuit that the view of record `p` holds. -/
def State.viewCircuit (s : State) (p : Port) : Option Word := (s.view p).map PeerView.circuit

/-- The circuit that the view of a record must hold: its own while it is announced. -/
def TrunkRecord.announcedCircuit (r : TrunkRecord) : Option Word :=
  if r.announces = true then r.binding.map Binding.circuit else none

theorem State.announcedSound_iff (s : State) :
    s.announcedSound ↔ s.announcedCount ≤ 8 ∧ ∀ p, s.viewCircuit p = (s.trunk p).announcedCircuit := Iff.rfl

theorem State.announcedCount_eq (s : State) : s.announcedCount = allPorts.countP s.announced :=
  List.countP_eq_length_filter.symm

theorem State.announcedCount_le (h : ∀ p, t.announced p = true → s.announced p = true) :
    t.announcedCount ≤ s.announcedCount := by
  rw [State.announcedCount_eq, State.announcedCount_eq]
  exact List.countP_mono_left fun p _ => h p

/-- One record more is announced at most. -/
theorem State.announcedCount_le_succ (p : Port) (h : ∀ q ≠ p, t.announced q = true → s.announced q = true) :
    t.announcedCount ≤ s.announcedCount + 1 := by
  rw [State.announcedCount_eq, State.announcedCount_eq]
  exact countP_le_succ_of_nodup (List.nodup_finRange 64) p h

theorem State.announcedSound.record (hs : s.announcedSound) (p : Port) (hne : ∀ q ≠ p, t.trunk q = s.trunk q)
    (hviews : ∀ q ≠ p, t.viewCircuit q = s.viewCircuit q)
    (hcount : (t.trunk p).announces = true → (s.trunk p).announces = true ∨ s.announcedCount < 8)
    (hp : t.viewCircuit p = (t.trunk p).announcedCircuit) : t.announcedSound := by
  have hother (q : Port) (hq : q ≠ p) : t.announced q = true → s.announced q = true := by
    rw [State.announced_eq, State.announced_eq, hne q hq]; exact id
  refine (State.announcedSound_iff t).mpr ⟨?_, fun q => ?_⟩
  · by_cases hlt : s.announcedCount < 8
    · exact Nat.le_trans (State.announcedCount_le_succ p hother) hlt
    · refine Nat.le_trans (State.announcedCount_le fun q => ?_) hs.1
      by_cases hq : q = p
      · rw [hq]; exact fun h => (hcount h).resolve_right hlt
      · exact hother q hq
  · by_cases hq : q = p
    · rw [hq]; exact hp
    · rw [hviews q hq, hne q hq]; exact hs.2 q

theorem State.viewCircuit_setView (s : State) (p q : Port) (v : Option PeerView) :
    (s.setView p v).viewCircuit q = if q = p then v.map PeerView.circuit else s.viewCircuit q := by
  rw [State.viewCircuit, State.view_setView]; split <;> rfl

theorem Move.announcedSound (m : Move strict load s t) (hload : load → strict) (hs : s.announcedSound) :
    t.announcedSound := by
  have stays (p : Port) {r : TrunkRecord} (ha : r.announces = (s.trunk p).announces)
      (hc : r.announcedCircuit = (s.trunk p).announcedCircuit) (htrunks : t.trunks = (s.setTrunk p r).trunks)
      (hviews : ∀ q, t.viewCircuit q = s.viewCircuit q) : t.announcedSound := by
    have htrunk (q : Port) := State.trunk_congr htrunks q
    refine hs.record p (fun q hq => (htrunk q).trans (s.trunk_setTrunk_ne r hq)) (fun q _ => hviews q) ?_ ?_
    · rw [htrunk, State.trunk_setTrunk_self, ha]; exact .inl
    · rw [htrunk, State.trunk_setTrunk_self, hc, hviews]; exact hs.2 p
  have same (htrunks : t.trunks = s.trunks) (hviews : ∀ q, t.viewCircuit q = s.viewCircuit q) :
      t.announcedSound :=
    hs.record 0 (fun q _ => State.trunk_congr htrunks q) (fun q _ => hviews q)
      (fun h => .inl (State.trunk_congr htrunks 0 ▸ h)) (by rw [State.trunk_congr htrunks, hviews]; exact hs.2 0)
  have active (p : Port) {r : TrunkRecord} {phase phase' : Phase} (hp : s.phase p = phase) (hr : r.phase = phase')
      (hb : r.binding = (s.trunk p).binding) (h : phase.indexActive = true ∧ phase'.indexActive = true)
      (htrunks : t.trunks = (s.setTrunk p r).trunks) (hviews : ∀ q, t.viewCircuit q = s.viewCircuit q) :
      t.announcedSound := by
    have ha := TrunkRecord.announces_of_active hp h.1
    have hb' := TrunkRecord.announces_of_active hr h.2
    exact stays p (hb'.trans ha.symm) (by rw [TrunkRecord.announcedCircuit, TrunkRecord.announcedCircuit, ha, hb', hb])
      htrunks hviews
  have silent (p : Port) {r : TrunkRecord} (ha : (s.trunk p).announces = false) (hr : r.announces = false)
      (htrunks : t.trunks = (s.setTrunk p r).trunks) (hviews : ∀ q, t.viewCircuit q = s.viewCircuit q) :
      t.announcedSound :=
    stays p (hr.trans ha.symm) (by rw [TrunkRecord.announcedCircuit, TrunkRecord.announcedCircuit, ha, hr]; rfl)
      htrunks hviews
  have leaves (p : Port) (r : TrunkRecord) (hr : r.announces = false) :
      ((s.setTrunk p r).setView p none).announcedSound := by
    have hself : ((s.setTrunk p r).setView p none).trunk p = r := s.trunk_setTrunk_self p r
    refine hs.record p (fun q hq => s.trunk_setTrunk_ne r hq) (fun q hq => ?_) (fun h => ?_) ?_
    · rw [State.viewCircuit_setView, if_neg hq]; rfl
    · rw [hself, hr] at h; contradiction
    · rw [State.viewCircuit_setView, if_pos rfl, hself, TrunkRecord.announcedCircuit, hr]; rfl
  cases m with
  | same h => exact same h.trunks h.views
  | occurrence src o =>
    exact same (State.recordOccurrence_trunks ..) fun q => by
      rw [State.viewCircuit, State.view, State.recordOccurrence_link]; rfl
  | record p r h =>
    have ha : r.announces = (s.trunk p).announces := by
      rw [TrunkRecord.announces, TrunkRecord.announces, h.phase, h.lingering]
    refine stays p ha ?_ rfl fun _ => rfl
    rw [TrunkRecord.announcedCircuit, TrunkRecord.announcedCircuit, ha]
    rcases h.binding with ⟨hx, hy⟩ | ⟨x, y, hx, hy, hlike⟩
    · rw [hx, hy]
    · rw [hx, hy, Option.map_some, Option.map_some, hlike.2.1]
  | bind p b hp =>
    exact silent p (r := (s.trunk p).madeBound b) (TrunkRecord.not_announces hp rfl (by decide))
      (TrunkRecord.not_announces (phase := .bound) rfl rfl (by decide)) rfl fun _ => rfl
  | free p hp =>
    refine silent p (r := .freeRecord) (TrunkRecord.not_announces hp rfl (by decide)) rfl ?_ ?_
    · unfold State.freeRecord; split <;> rfl
    · unfold State.freeRecord; split <;> exact fun _ => rfl
  | start p hp hn =>
    obtain ⟨hbound, b, hb, -⟩ := (TrunkRecord.preparedBound_iff _).mp hp
    have hself : (s.startRecord p).trunk p = { s.trunk p with phase := .census } := by
      unfold State.startRecord State.joinAnnounced; split <;> exact State.trunk_setTrunk_self ..
    have hview (q : Port) : (s.startRecord p).viewCircuit q = if q = p then some b.circuit else s.viewCircuit q := by
      have hb' : ((s.setTrunk p { s.trunk p with phase := .census }).trunk p).binding = some b := by
        rw [State.trunk_setTrunk_self]; exact hb
      have hjoined : (s.startRecord p).viewCircuit q =
          (s.setView p (some (newView b.circuit))).viewCircuit q := by
        unfold State.startRecord State.joinAnnounced
        rw [show ((s.setTrunk p { s.trunk p with phase := .census }).queueSweep .census p).trunk p
          = (s.setTrunk p { s.trunk p with phase := .census }).trunk p from rfl, hb']
        rfl
      rw [hjoined, State.viewCircuit_setView]; rfl
    refine hs.record p (fun q hq => ?_) (fun q hq => ?_) (fun _ => .inr hn) ?_
    · unfold State.startRecord State.joinAnnounced; split <;> exact State.trunk_setTrunk_ne _ _ hq
    · rw [hview, if_neg hq]
    · rw [hview, if_pos rfl, hself, TrunkRecord.announcedCircuit,
        TrunkRecord.announces_of_active (phase := .census) rfl rfl, if_pos rfl, hb]; rfl
  | bridge p r hp _ hr hk => exact active p hp hr hk.binding ⟨rfl, rfl⟩ rfl fun _ => rfl
  | arm p r hp _ hr hk => exact active p hp hr hk.binding ⟨rfl, rfl⟩ rfl fun _ => rfl
  | disarm p r hp hr hk => exact active p hp hr hk.binding ⟨rfl, rfl⟩ rfl fun _ => rfl
  | roll p r hp hr hk => exact active p hp hr hk.binding ⟨rfl, rfl⟩ rfl fun _ => rfl
  | release p r hp hr hk => exact active p hp hr hk.binding ⟨rfl, rfl⟩ rfl fun _ => rfl
  | unrollRolling p r hp hr hk => exact active p hp hr hk.binding ⟨rfl, rfl⟩ rfl fun _ => rfl
  | unrollRolled p r hp _ hr hk => exact active p hp hr hk.binding ⟨rfl, rfl⟩ rfl fun _ => rfl
  | unbridge p r hp _ hr hk =>
    rcases hp with hp | hp | hp <;> exact active p hp hr hk.binding ⟨rfl, rfl⟩ rfl fun _ => rfl
  | unrolledToUnbridge p r hp _ hr hk => exact active p hp hr hk.binding ⟨rfl, rfl⟩ rfl fun _ => rfl
  | prepared p _ =>
    refine stays p (r := { s.trunk p with
      binding := (s.trunk p).binding.map (fun b => { b with prepared := true }) }) rfl ?_ rfl fun _ => rfl
    unfold TrunkRecord.announcedCircuit
    cases (s.trunk p).binding <;> simp [TrunkRecord.announces]
  | onward p r _ hp hk =>
    rcases hp with ⟨hp, hr⟩ | ⟨hp, hr⟩ | ⟨hp, hr⟩ <;>
      exact active p hp hr hk.binding ⟨rfl, rfl⟩ rfl fun _ => rfl
  | rolled p r _ hp hr _ hb => exact active p hp hr hb ⟨rfl, rfl⟩ rfl fun _ => rfl
  | migrated p r _ hp hr hg hb =>
    have ha := TrunkRecord.announces_of_active (phase := .releasing) hp rfl
    have hr' : r.announces = true := by simp [TrunkRecord.announces, hr, hg]
    exact stays p (hr'.trans ha.symm)
      (by rw [TrunkRecord.announcedCircuit, TrunkRecord.announcedCircuit, ha, hr', hb]) rfl fun _ => rfl
  | bound p r _ _ hr => exact leaves p r (TrunkRecord.not_announces hr rfl (by decide))
  | unlinger p hp =>
    have hphase : (s.trunk p).phase = .migrated := hp
    exact leaves p _ (by simp [TrunkRecord.announces, hphase, Phase.indexActive])
  | install p c F m hl hi hf =>
    exact silent p (r := installedRecord c F m) (TrunkRecord.not_announces (hf (hload hl)) rfl (by decide)) rfl rfl
      fun _ => rfl
  | _ => exact same rfl fun _ => rfl

theorem State.announcedSound_of_free (hfree : ∀ p, s.trunk p = .freeRecord) (hview : ∀ p, s.view p = none) :
    s.announcedSound := by
  refine (State.announcedSound_iff _).mpr ⟨?_, fun p => ?_⟩
  · have hnone : s.announcedPorts = [] := by
      refine List.filter_eq_nil_iff.mpr fun p _ => ?_
      rw [State.announced_eq, hfree]; decide
    rw [State.announcedCount, hnone]; exact Nat.zero_le _
  · rw [State.viewCircuit, hview, hfree]; rfl

/-- Settles O58: a record joins the announced set by START alone, below 8, with its view, and leaves it with its view;
every other move keeps which records are announced. -/
theorem announcedSetStaysWithinEight : Obligations.AnnouncedSetStaysWithinEight := by
  intro s t hs hload hstep
  refine step_keeps (strict := True) (tidy := False) (P := State.announcedSound) ⟨fun _ => hload, False.elim⟩
    False.elim (fun _ h => h) (fun load a b h => ?_) (fun u straps made _ =>
      State.announcedSound_of_free (u.trunk_afterPowerOn straps made) (u.view_afterPowerOn straps made))
    hs hstep
  exact h.chain.keeps (fun _ _ m => m.announcedSound fun _ => trivial) fun _ _ h => h

/-! ## The machine right after power-on reset -/

theorem State.phase_reset (p : Port) : State.reset.phase p = .free := by rw [State.phase, State.trunk_reset]; rfl

theorem State.boundTo_reset (F : FibrePort) : State.reset.boundTo F = none := by simp [State.boundTo, State.reset]

theorem State.view_reset (p : Port) : State.reset.view p = none := by simp [State.view, State.reset, initialLink]

/-- Settles O59: after reset every table is at its power-on values, on which each invariant holds. -/
theorem resetIsSound : Obligations.ResetIsSound := by
  refine ⟨reset_storeSound, ⟨fun src => ?_, ?_⟩, Nat.zero_le _, fun p => ?_, ?_, fun _ => ?_, ?_, ?_, ?_, ?_⟩
  · rw [State.source_reset]; exact Nat.zero_le _
  · rw [State.source_reset]; decide
  · rw [State.trunk_reset]; exact ⟨nofun, nofun⟩
  · exact State.bindingSound_of_free State.trunk_reset State.boundTo_reset
  · exact ⟨State.phase_reset, rfl, rfl, rfl, nofun⟩
  · exact ⟨List.nodup_nil, nofun, List.Pairwise.nil⟩
  · exact ⟨List.nodup_nil, fun p => by rw [State.phase_reset]; exact ⟨nofun, nofun⟩⟩
  · exact State.announcedSound_of_free State.trunk_reset State.view_reset
  · exact ⟨Nat.zero_le _, List.nodup_nil, nofun⟩

/-! ## The queue of rows (log 3) -/

/-- Settles O1: the step is defined by the front of the queue. -/
theorem stepTakesTheFrontCommand : Obligations.StepTakesTheFrontCommand := ⟨fun _ _ _ => rfl, fun _ => rfl⟩

end Sys2Proof.Machine
end

section
/-! SUPPORT. The rows that stand alone: one occurrence (O14), the resets of the channel and the image operations
(O4, O5), a cycle that is taken (O7), and the next grant (O8). -/

namespace Sys2Proof.Machine

/-! ## Frames -/

/-- Two states with the same items are one state. -/
theorem State.eq_of_fields {s t : State} (straps : s.straps = t.straps) (port : s.port = t.port)
    (arbiter : s.arbiter = t.arbiter) (store : s.store = t.store) (trunks : s.trunks = t.trunks)
    (fibreTable : s.fibreTable = t.fibreTable) (armedList : s.armedList = t.armedList) (image : s.image = t.image)
    (links : s.links = t.links) (sweeps : s.sweeps = t.sweeps) (timing : s.timing = t.timing)
    (link : s.link = t.link) (faults : s.faults = t.faults) (channel : s.channel = t.channel) (due : s.due = t.due)
    (draws : s.draws = t.draws) (pending : s.pending = t.pending) : s = t := by
  cases s; cases t; simp_all

/-! ## One occurrence -/

/-- What the collector holds for a source depends on its list of sources alone. -/
theorem State.first_recordOccurrence (s : State) (src : FaultSource) (trunk : Option Port) :
    (s.recordOccurrence src trunk).faults.first =
      if (s.source src).mask = true then s.faults.first
      else match s.faults.first with
        | some ff => some ff
        | none => some { source := src, trunk := trunk, multiframe := s.timing.multiframe } := by
  cases hm : (s.source src).mask
  · cases hf : s.faults.first <;> by_cases hc : (s.source src).cls = .hold <;>
      simp [State.recordOccurrence, State.captureFirst, State.setSource, State.setHold, hm, hf, hc]
  · simp [State.recordOccurrence, State.setSource, hm]

theorem State.hold_recordOccurrence (s : State) (src : FaultSource) (trunk : Option Port) :
    (s.recordOccurrence src trunk).faults.hold =
      (s.faults.hold || (!(s.source src).mask && (s.source src).cls = .hold)) := by
  cases hm : (s.source src).mask
  · cases hf : s.faults.first <;> by_cases hc : (s.source src).cls = .hold <;>
      simp [State.recordOccurrence, State.captureFirst, State.setSource, State.setHold, hm, hf, hc]
  · simp [State.recordOccurrence, State.setSource, hm]

/-- Settles O14. -/
theorem faultOccurrenceIsCounted : Obligations.FaultOccurrenceIsCounted := by
  intro s src trunk
  exact ⟨State.recordOccurrence_eq _ _ _, fun other => State.source_recordOccurrence s src other trunk,
    State.first_recordOccurrence s src trunk, State.hold_recordOccurrence s src trunk⟩

/-! ## PRST and the image operations -/

theorem State.finishUnit_free (s : State) : s.finishUnit.arbiter.inProgress = none := by
  unfold State.finishUnit State.atUnitEnd
  rw [State.moveCursorOf_eq]
  exact s.atBoundary_free

/-- What the end of an event leaves when a unit is in progress, and when none is. -/
theorem State.finishUnit_of_free {s : State} (h : s.arbiter.inProgress = none) : s.finishUnit = s :=
  State.atUnitEnd_of_free _ h

/-- Settles O4. -/
theorem processorResetReachesTheChannelAlone : Obligations.ProcessorResetReachesTheChannelAlone := by
  intro s hs
  refine ⟨_, rfl, ?_⟩
  have hu : s.settle.finishUnit = if s.arbiter.inProgress = none then s.resume.finishUnit else s.finishUnit := by
    rw [State.settle_of_nothing_due hs]
    split
    · rfl
    · next h => rw [State.resume_busy (Option.isSome_iff_ne_none.mpr h)]
  rw [hu]
  exact State.resumed_resume _

/-- Settles O5. -/
theorem imageOperationsComplete : Obligations.ImageOperationsComplete := by
  refine ⟨fun s p c hs hi => ?_, fun s hs hi => ?_⟩
  · refine ⟨(s.resume.setSlot p (.good c)).setImageState .ready, ?_, ?_, ?_⟩
    · simp [exec, execImageProgrammed, State.settle_of_nothing_due hs, hi]
    · rw [State.resume_eq]; rfl
    · exact s.resume_sweepQueue
  · refine ⟨{ s.resume with image := { state := .ready, slots := Vector.replicate 64 .blank } }, ?_, ?_, ?_⟩
    · simp [exec, execImageErased, State.settle_of_nothing_due hs, hi]
    · rw [State.resume_eq]
    · exact s.resume_sweepQueue

/-! ## A cycle that is taken -/

/-- With nothing due and the store free of sweeps, the next grant goes to the processor unit that waits. -/
theorem State.resume_grants_waiting {s : State} {u : ProcessorUnit} (hp : s.arbiter.inProgress = none)
    (hw : s.arbiter.waiting = some u) (hq : s.sweeps = []) (he : s.eventWaits = false) :
    s.resume = { s with arbiter := { inProgress := some (.processor u), waiting := none, allowance := 0 } } := by
  simp [State.resume, State.engine, State.arbitrate, State.completed, State.executing, State.sweepOffer,
    Arbiter.decide, Arbiter.grantProcessor, hp, hw, hq, he]

/-- With no unit waiting and no sweep, the free store stays free. -/
theorem State.resume_idle {s : State} (hw : s.arbiter.waiting = none) (hq : s.sweeps = []) : s.resume = s := by
  have hdecide : s.arbiter.decide none = s.arbiter := by simp [Arbiter.decide, hw]
  have hexecuting : s.executing = none := by simp [State.executing, hq]
  have hengine : s.engine = s := by simp [State.engine, hexecuting]
  unfold State.resume
  split
  · rfl
  · simp [hengine, State.arbitrate, State.completed, State.sweepOffer, hexecuting, hdecide]

/-- Whether a cycle is at the window of an open session (R37). -/
abbrev State.atWindow (s : State) (c : BusCycle) : Prop :=
  cycleAddress c = windowAddress s.straps.win ∧ s.channelClosed = false

theorem State.classCycle_of_atWindow {s : State} {c : BusCycle} (h : s.atWindow c) :
    s.classCycle c = { s with port := { s.port with cycle := some { cycle := c, cls := some .channel } } } := by
  simp [State.classCycle, State.classOf, h.1, h.2]

theorem State.classCycle_of_not_atWindow {s : State} {c : BusCycle} (h : ¬ s.atWindow c) :
    s.classCycle c = { s with
      port := { s.port with cycle := some { cycle := c, cls := some .store } }
      arbiter := { s.arbiter with waiting := some (cycleUnit c) } } := by
  have : s.classOf c = .store := by
    unfold State.classOf
    rw [if_neg]
    simpa [State.atWindow] using h
  simp only [State.classCycle, this]

theorem State.atWindow_resume (s : State) (c : BusCycle) : s.resume.atWindow c ↔ s.atWindow c := by
  simp [State.atWindow, State.channelClosed]

/-- A cycle that the port takes (R36, R37). -/
theorem State.takeCycle_eq {s : State} (c : BusCycle) (h : s.port.cycle = none) :
    s.takeCycle c =
      if s.image.state = .loading then { s with port := { s.port with cycle := some { cycle := c, cls := none } } }
      else s.classCycle c := by
  simp only [State.takeCycle, h]

/-- A store cycle that the port has just classed is not served by the channel. -/
theorem State.channelAct_of_storeCycle {s : State} {c : BusCycle}
    (h : s.port.cycle = some { cycle := c, cls := some .store }) : s.channelAct = none := by
  simp [State.channelAct, h]

/-- Whether a cycle that the port takes asks the arbiter for the store. -/
theorem State.takeCycle_arbiter {s : State} (c : BusCycle) (h : s.port.cycle = none) :
    (s.takeCycle c).arbiter =
      if s.image.state = .loading ∨ (cycleAddress c = windowAddress s.straps.win ∧ s.channelClosed = false) then
        s.arbiter
      else { s.arbiter with waiting := some (cycleUnit c) } := by
  rw [State.takeCycle_eq c h]
  by_cases hload : s.image.state = .loading
  · simp [hload]
  · by_cases hwindow : s.atWindow c
    · simp only [hload, false_or, if_false, State.classCycle_of_atWindow hwindow]
      rw [if_pos hwindow]
    · simp only [hload, false_or, if_false, State.classCycle_of_not_atWindow hwindow]
      rw [if_neg hwindow]

theorem State.takeCycle_port {s : State} (c : BusCycle) (h : s.port.cycle = none) :
    (s.takeCycle c).port = { s.port with
      cycle := some
        { cycle := c
          cls := if s.image.state = .loading then none
            else if cycleAddress c = windowAddress s.straps.win ∧ s.channelClosed = false then some .channel
            else some .store } } := by
  rw [State.takeCycle_eq c h]
  by_cases hload : s.image.state = .loading
  · simp [hload]
  · by_cases hwindow : s.atWindow c
    · simp only [hload, if_false, State.classCycle_of_atWindow hwindow]
      rw [if_pos hwindow]
    · simp only [hload, if_false, State.classCycle_of_not_atWindow hwindow]
      rw [if_neg hwindow]

theorem State.takeCycle_frame (s : State) (c : BusCycle) :
    s.takeCycle c = { s with port := (s.takeCycle c).port, arbiter := (s.takeCycle c).arbiter } := by
  unfold State.takeCycle State.classCycle
  (repeat' split) <;> rfl

/-- Settles O7. -/
theorem takenCycleIsClassedOnce : Obligations.TakenCycleIsClassedOnce := by
  intro s c hs hfree
  have hfree' : s.resume.port.cycle = none := by simpa using hfree
  have hdue : s.due = [] := by
    simp only [State.somethingDue, State.eventWaits, Bool.or_eq_false_iff, Bool.not_eq_false',
      List.isEmpty_iff] at hs
    exact hs.2.1
  have hclosed : s.resume.channelClosed = s.channelClosed := by simp [State.channelClosed]
  have hframe : s.resume.takeCycle c = { s with
      port := (s.resume.takeCycle c).port, arbiter := (s.resume.takeCycle c).arbiter, sweeps := s.resume.sweeps } := by
    rw [State.takeCycle_frame]
    exact State.eq_of_fields (by simp) rfl rfl (by simp) (by simp) (by simp) (by simp) (by simp) (by simp) rfl (by simp)
      (by simp) (by simp) (by simp) (by simp) (by simp) (by simp)
  have hport := State.takeCycle_port c hfree'
  have harbiter := State.takeCycle_arbiter c hfree'
  simp only [State.resume_image, State.resume_straps, State.resume_port, hclosed] at hport harbiter
  refine ⟨(s.resume.takeCycle c).resume, by simp only [exec, execProcessorCycle, State.settle_of_nothing_due hs],
    ⟨_, by rw [State.resume_port]; exact hport, rfl⟩, ?_, ?_, fun hbusy => ?_, fun hload hwindow ha hq => ?_⟩
  · rw [State.resume_eq, hframe]
  · rw [State.resume_sweepQueue, hframe]
    exact s.resume_sweepQueue
  · have hs' : s.resume = s := State.resume_busy (Option.isSome_iff_ne_none.mpr hbusy)
    rw [hs'] at harbiter ⊢
    rw [State.resume_busy, harbiter]
    rw [harbiter, Option.isSome_iff_ne_none]
    split
    · exact hbusy
    · exact hbusy
  · have hs' : s.resume = s := State.resume_idle (by rw [ha]) hq
    rw [hs'] at harbiter hport hframe ⊢
    rw [if_neg (not_or.mpr ⟨hload, hwindow⟩)] at harbiter
    rw [if_neg hload, if_neg hwindow] at hport
    have hwait : (s.takeCycle c).eventWaits = false := by
      have hact : (s.takeCycle c).channelAct = none := State.channelAct_of_storeCycle (c := c) (by rw [hport])
      have hdue' : (s.takeCycle c).due = [] := by rw [hframe]; exact hdue
      simp [State.eventWaits, hact, hdue']
    rw [State.resume_grants_waiting (u := cycleUnit c) (by rw [harbiter, ha]) (by rw [harbiter])
      (by rw [hframe]; exact hq) hwait]

/-! ## The executing sweep -/

theorem State.eligible_eq (s : State) :
    s.eligible = fun sw => sw.kind = .roll || sw.kind = .unroll || !s.faults.hold := by
  funext sw
  cases h : sw.kind <;> simp [State.eligible, State.inHold, SweepKind.classA, h]

theorem State.boundNow_eq (s : State) : s.boundNow = s.boundFibrePorts := by
  refine List.filter_congr fun F _ => ?_
  cases s.boundTo F <;> rfl

theorem listOrder_eq : listOrder = rollOrder := by decide

theorem State.firstLink_eq (s : State) (p : Port) (ks : List Slot) :
    s.firstLink p ks = firstOfLists s.links p ks := by
  induction ks with
  | nil => rfl
  | cons k rest ih =>
    have hhead : (s.links.filter (fun l => l.talker = { port := p, slot := k })).head? =
        s.links.find? (fun l => l.talker = { port := p, slot := k }) := List.head?_filter
    unfold State.firstLink State.talkerList firstOfLists
    rw [List.findSome?_cons, ← hhead]
    cases s.links.filter (fun l => l.talker = { port := p, slot := k }) with
    | nil => exact ih
    | cons l _ => rfl

/-- The executing sweep as it begins or switches (R90, R92, R94). -/
theorem State.executes_eq (s : State) (sw : Sweep) : s.executes sw = s.begun sw := by
  unfold State.executes State.begun
  simp only [State.boundNow_eq, listOrder_eq, ← State.firstLink_eq]
  obtain ⟨kind, trunk, cursor, scanSet, unitsDone⟩ := sw
  cases kind <;> cases cursor
  case census.census => cases scanSet <;> rfl
  all_goals rfl

theorem Sweep.finished_eq_false_iff (sw : Sweep) : sw.finished = false ↔ sw.unitRemains := by
  unfold Sweep.finished Sweep.unitRemains
  cases h : sw.cursor with
  | slot next => simp
  | census position => cases hs : sw.scanSet <;> simp [scanSize, Sweep.ports, hs]
  | unset => simp
  | index current => cases current <;> simp
  | scan second position =>
    cases second
    · simp
    · simp only [Bool.true_and, decide_eq_false_iff_not, Nat.not_le, true_implies]
      rfl

theorem State.begun_kind (s : State) (sw : Sweep) : (s.begun sw).kind = sw.kind :=
  congrArg Prod.fst (s.begun_seen sw)

/-- The engine leaves the executing sweep executing, as it begins. -/
theorem State.executing_engine {s : State} {sw : Sweep} (h : s.executing = some sw) :
    s.engine.executing = some (s.begun sw) := by
  have hkeeps : (s.eligible ∘ fun old => if old = sw then s.begun sw else old) = s.eligible := by
    funext old
    by_cases ho : old = sw
    · simp [State.eligible, ho, s.begun_kind]
    · simp [ho]
  have heligible : s.engine.eligible = s.eligible := by
    funext old; simp [State.eligible, State.inHold]
  have hsweeps : s.engine.sweeps = s.sweeps.map fun old => if old = sw then s.begun sw else old := by
    simp [State.engine, h]
  unfold State.executing at h ⊢
  rw [heligible, hsweeps, List.find?_map, hkeeps, h]
  simp

/-- A free store at which no event waits: the engine, then the arbiter (R45, R79). -/
theorem State.resume_free {s : State} (hp : s.arbiter.inProgress = none) (he : s.eventWaits = false) :
    s.resume = s.engine.arbitrate := by
  simp [State.resume, hp, he]

theorem State.resume_executing {s : State} {sw : Sweep} (hp : s.arbiter.inProgress = none)
    (he : s.eventWaits = false) (h : s.executing = some sw) :
    s.resume.executing = some (s.begun sw) ∧
      s.resume = { s with
        sweeps := s.sweeps.map (fun old => if old = sw then s.begun sw else old), arbiter := s.resume.arbiter } ∧
      s.resume.arbiter =
        if (s.begun sw).finished = true then s.arbiter else s.arbiter.decide (some (s.begun sw)) := by
  have hengine := State.executing_engine h
  have hnow : s.engine = { s with sweeps := s.sweeps.map fun old => if old = sw then s.begun sw else old } := by
    simp only [State.engine, h]
  rw [State.resume_free hp he]
  refine ⟨?_, ?_, ?_⟩
  · rw [State.arbitrate_eq]
    exact hengine
  · rw [State.arbitrate_eq, hnow]
  · unfold State.arbitrate State.completed State.sweepOffer
    rw [hengine]
    cases hf : (s.begun sw).finished <;> simp [hf]

theorem State.resume_nothing_executing {s : State} (hp : s.arbiter.inProgress = none) (he : s.eventWaits = false)
    (h : s.executing = none) : s.resume = { s with arbiter := s.arbiter.decide none } := by
  have hnow : s.engine = s := by simp only [State.engine, h]
  simp [State.resume_free hp he, hnow, State.arbitrate, State.completed, State.sweepOffer, h]

/-! ## The unit in progress -/

theorem State.sweepAccesses_arbiter (s : State) (sw : Sweep) : (s.sweepAccesses sw).1.arbiter = s.arbiter := by
  have hcensus : ∀ p x w, (s.censusRead p x w).1.arbiter = s.arbiter := by
    intro p x w
    unfold State.censusRead
    split
    · rfl
    · split
      · split
        · rw [State.addLink_eq]
        · rfl
      · rfl
  unfold State.sweepAccesses
  split
  · exact hcensus _ _ _
  · exact s.writesReported_arbiter _

theorem State.runSweepUnit_arbiter (s : State) (p : Port) : (s.runSweepUnit p).arbiter = s.arbiter := by
  unfold State.runSweepUnit raiseInUnit
  cases s.sweepOf p with
  | none => rfl
  | some sw =>
    simp only [State.dispatchAll_arbiter]
    rw [← s.sweepAccesses_arbiter sw]
    (repeat' split) <;> simp [State.setSweep]

/-- No unit in progress touches the arbiter before its end. -/
theorem State.runUnit_arbiter (s : State) (u : StoreUnit) : (s.runUnit u).arbiter = s.arbiter := by
  cases u with
  | sweep kind p => exact s.runSweepUnit_arbiter p
  | processor u =>
    cases u with
    | read a =>
      simp only [State.runUnit, State.runProcessorRead, raiseInUnit, State.dispatchAll_arbiter,
        State.giveReadyWith_arbiter, State.reportStoreCycle_arbiter]
      (repeat' split) <;> simp
    | write a w => simp [State.runUnit, State.runProcessorWrite]
    | raw x =>
      simp only [State.runUnit, State.runRawRead, State.answerRaw, State.giveReady_arbiter]
      split <;> rfl

/-- The unit in progress ends, and the arbiter's waiting unit and allowance count are kept. -/
theorem State.finishUnit_arbiter (s : State) :
    s.finishUnit.arbiter = { s.arbiter with inProgress := none } := by
  unfold State.finishUnit State.atUnitEnd
  rw [State.moveCursorOf_eq]
  cases h : s.arbiter.inProgress with
  | none => rw [State.atBoundary_of_free h, ← h]
  | some u => simp only [State.atBoundary, h, State.runUnit_arbiter]

/-- The row of the unit in progress ends it, and the next grant follows (R43, R45). -/
theorem exec_row {s : State} {u : StoreUnit} (h : s.arbiter.inProgress = some u) :
    exec u.row s = .next s.finishUnit.resume := by
  have hstep : ∀ test : StoreUnit → Bool, test u = true → s.unitStep test = s.finishUnit.resume := by
    intro test ht
    simp [State.unitStep, State.unitIs, h, ht]
  cases u with
  | processor u => cases u <;> exact congrArg _ (hstep _ rfl)
  | sweep kind p => cases kind <;> exact congrArg _ (hstep _ (by simp [isSweepUnit]))

/-- Settles O8. -/
theorem arbiterFollowsTheGrantTable : Obligations.ArbiterFollowsTheGrantTable := by
  refine ⟨fun u sw n => ⟨rfl, rfl, ?_, ?_⟩, fun s hp he => ?_, fun s u h => ⟨exec_row h, s.finishUnit_arbiter⟩⟩
  · simp [Arbiter.decide, Arbiter.grantSweep]
  · have hle : n < 8 ↔ n ≤ 7 := Nat.lt_succ_iff
    by_cases hA : sw.kind.classA = true <;> by_cases hn : n ≤ 7 <;>
      simp [Arbiter.decide, Arbiter.grantSweep, Arbiter.grantProcessor, hA, hn, hle]
  · rw [← State.eligible_eq]
    refine ⟨State.resume_nothing_executing hp he, fun sw h => ?_⟩
    obtain ⟨hexec, hframe, harbiter⟩ := State.resume_executing hp he h
    simp only [State.executes_eq]
    refine ⟨hexec, hframe, fun hr => ?_, fun hr => ?_⟩
    · rw [harbiter, if_neg (by simpa using (Sweep.finished_eq_false_iff _).mpr hr)]
    · rw [harbiter, if_pos (by simpa [← Sweep.finished_eq_false_iff] using hr)]

end Sys2Proof.Machine
end

section
/-! SUPPORT. POWER_ON_RESET (O3): the power-on values of every block, and the store that a unit cut short leaves. -/

namespace Sys2Proof.Machine

/-! ## The store that a unit leaves (R42, R55) -/

/-- A store list after writes, in order. -/
def storeAfter (m : List (Nat × Word)) (ws : List (Physical × Word)) : List (Nat × Word) :=
  ws.foldl (fun m xw => insertWord m xw.1.toNat xw.2) m

/-- The writes that a unit makes when none of its accesses is cut off. -/
def State.unitWrites (s : State) (u : StoreUnit) : List (Physical × Word) := (s.unitAccesses u).filterMap id

theorem State.sweepWrite_census {s : State} {sw : Sweep} (h : sw.kind = .census) : s.sweepWrite sw = none := by
  cases hb : (s.trunk sw.trunk).binding <;> simp [State.sweepWrite, Sweep.unitWrite, h, hb]

theorem State.censusRead_store (s : State) (p : Port) (x : Physical) (w : Word) :
    (s.censusRead p x w).1.store = s.store := by
  unfold State.censusRead
  split
  · rfl
  · split
    · split
      · rw [State.addLink_eq]
      · rfl
    · rfl

theorem State.sweepAccesses_store (s : State) (sw : Sweep) :
    (s.sweepAccesses sw).1.store = storeAfter s.store (s.sweepWrite sw).toList := by
  unfold State.sweepAccesses
  split
  · next hkind _ =>
    rw [State.sweepWrite_census hkind, State.censusRead_store]
    rfl
  · exact s.writesReported_store _

theorem State.runSweepUnit_store {s : State} {p : Port} {sw : Sweep} (h : s.sweepOf p = some sw) :
    (s.runSweepUnit p).store = storeAfter s.store (s.sweepWrite sw).toList := by
  rw [← s.sweepAccesses_store sw]
  simp only [State.runSweepUnit, h, raiseInUnit, State.dispatchAll_store]
  (repeat' split) <;> simp [State.setSweep]

theorem State.unitAccesses_length_le (s : State) (u : StoreUnit) : (s.unitAccesses u).length ≤ 2 := by
  cases u with
  | processor u =>
    cases u with
    | write a w =>
      have : (s.landingSet a).length ≤ 2 := by
        unfold State.landingSet
        split <;> simp
      simpa [State.unitAccesses, State.processorWrites] using this
    | read a => simp [State.unitAccesses]
    | raw x => simp [State.unitAccesses]
  | sweep kind p =>
    cases h : s.sweepOf p <;> cases kind <;> simp [State.unitAccesses, h]

/-- The store that a unit leaves at its end. -/
theorem State.runUnit_store {s : State} {u : StoreUnit}
    (hkind : ∀ kind p sw, u = .sweep kind p → s.sweepOf p = some sw → sw.kind = kind) :
    (s.runUnit u).store = storeAfter s.store (s.unitWrites u) := by
  cases u with
  | processor u =>
    cases u with
    | read a =>
      simp only [State.runUnit, State.runProcessorRead, raiseInUnit, State.dispatchAll_store,
        State.giveReadyWith_store, State.reportStoreCycle_store]
      (repeat' split) <;> simp [State.unitWrites, State.unitAccesses, storeAfter]
    | write a w =>
      simp [State.runUnit, State.runProcessorWrite, State.unitWrites, State.unitAccesses, storeAfter,
        State.writesReported_store, List.filterMap_map]
    | raw x =>
      simp only [State.runUnit, State.runRawRead, State.answerRaw, State.giveReady_store]
      split <;> rfl
  | sweep kind p =>
    cases h : s.sweepOf p with
    | none => simp [State.runUnit, State.runSweepUnit, State.unitWrites, State.unitAccesses, h, storeAfter]
    | some sw =>
      have hk : sw.kind = kind := hkind kind p sw rfl h
      have hwrites : s.unitWrites (.sweep kind p) = (s.sweepWrite sw).toList := by
        cases kind <;> cases hw : s.sweepWrite sw <;>
          simp_all [State.unitWrites, State.unitAccesses, State.sweepWrite_census]
      rw [hwrites]
      exact State.runSweepUnit_store h

theorem State.atBoundary_store {s : State} {u : StoreUnit} (h : s.arbiter.inProgress = some u) :
    s.atBoundary.store = (s.runUnit u).store := by
  simp [State.atBoundary, h]

theorem State.storeCutShort_busy {s : State} {u : StoreUnit} (h : s.arbiter.inProgress = some u) (made : Nat) :
    s.storeCutShort made = storeAfter s.store (((s.unitAccesses u).take made).filterMap id) := by
  simp only [State.storeCutShort, h, storeAfter]

/-- A unit of which all accesses are made leaves the store of its end. -/
theorem State.storeCutShort_of_all_made {s : State} {u : StoreUnit} (h : s.arbiter.inProgress = some u) {made : Nat}
    (hmade : 2 ≤ made) (hkind : ∀ kind p sw, u = .sweep kind p → s.sweepOf p = some sw → sw.kind = kind) :
    s.storeCutShort made = s.atBoundary.store := by
  rw [State.storeCutShort_busy h, State.atBoundary_store h, State.runUnit_store hkind,
    List.take_of_length_le (Nat.le_trans (s.unitAccesses_length_le u) hmade), State.unitWrites]

/-- Accesses none of which is a write leave the store as it was. -/
theorem State.storeCutShort_of_reads {s : State} {u : StoreUnit} (h : s.arbiter.inProgress = some u) {made : Nat}
    (hreads : ∀ access ∈ (s.unitAccesses u).take made, access = none) : s.storeCutShort made = s.store := by
  rw [State.storeCutShort_busy h, List.filterMap_eq_nil_iff.mpr fun access ha => by rw [hreads access ha]; rfl]
  rfl

/-- The unit of a rewriting sweep reads first. -/
theorem State.unitAccesses_take_one {s : State} {u : StoreUnit}
    (h : ∃ p, u = .sweep .bridge p ∨ u = .sweep .roll p ∨ u = .sweep .unroll p) :
    ∀ access ∈ (s.unitAccesses u).take 1, access = none := by
  obtain ⟨p, rfl | rfl | rfl⟩ := h <;> cases hp : s.sweepOf p <;> simp [State.unitAccesses, hp]

/-- The units that only read. -/
theorem State.unitAccesses_of_reader {s : State} {u : StoreUnit}
    (h : (∃ p, u = .sweep .census p) ∨ (∃ a, u = .processor (.read a)) ∨ ∃ x, u = .processor (.raw x)) :
    ∀ access ∈ s.unitAccesses u, access = none := by
  rcases h with ⟨p, rfl⟩ | ⟨a, rfl⟩ | ⟨x, rfl⟩
  · cases h : s.sweepOf p <;> simp [State.unitAccesses, h]
  · simp [State.unitAccesses]
  · simp [State.unitAccesses]

/-! ## The image after a power-on reset (R30, R32, R33) -/

theorem foldl_set_get {α : Type} {n : Nat} (f : Fin n → α) (ps : List (Fin n)) (v : Vector α n) (q : Fin n) :
    (ps.foldl (fun v p => v.set p.val (f p) p.isLt) v)[q] = if q ∈ ps then f q else v[q] := by
  induction ps generalizing v with
  | nil => simp
  | cons p rest ih =>
    rw [List.foldl_cons, ih]
    by_cases hq : q = p
    · subst hq; simp
    · rw [vector_get_set_ne v p q _ hq]
      simp [hq]

theorem State.slot_afterPowerOn (s : State) (straps : Straps) (made : Nat) (p : Port) :
    (s.afterPowerOn straps made).slot p = s.slotAfterReset p := by
  exact (foldl_set_get s.slotAfterReset allPorts s.image.slots p).trans (if_pos (List.mem_finRange p))

/-! ## The state after POWER_ON_RESET -/

/-- POWER_ON_RESET leaves the power-on values but for the collector, which PEER_IDENTITY may have reached. -/
theorem exec_powerOnReset_frame (straps : Straps) (made : Nat) (s : State) :
    ∃ t, exec (.powerOnReset straps made) s = .next t ∧
      t = { s.afterPowerOn straps made with faults := t.faults } ∧
      (if straps.site = 0 ∨ straps.site = 255 then
        t = (s.afterPowerOn straps made).recordOccurrence .peerIdentity none
      else t = s.afterPowerOn straps made) := by
  refine ⟨_, exec_powerOnReset straps made s, ?_, ?_⟩
  · split
    · exact State.recordOccurrence_eq ..
    · rfl
  · split <;> rfl

/-- What the collector holds right after a power-on reset, with PEER_IDENTITY raised once where SITE disables the
link (R166, R179). -/
theorem State.collector_afterPowerOn {s t : State} {straps : Straps} {made : Nat}
    (h : if straps.site = 0 ∨ straps.site = 255 then
        t = (s.afterPowerOn straps made).recordOccurrence .peerIdentity none
      else t = s.afterPowerOn straps made) :
    (∀ src, (t.source src).mask = false ∧ (t.source src).cls = src.defaultClass) ∧ t.faults.hold = false ∧
      (if straps.site = 0 ∨ straps.site = 255 then
        t.faults.first = some { source := .peerIdentity, trunk := none, multiframe := 0 } ∧
          ∀ src, (t.source src).sticky = (src = .peerIdentity : Bool) ∧
            (t.source src).count = (if src = .peerIdentity then 1 else 0) ∧ (t.source src).lastTrunk = none
      else
        t.faults.first = none ∧
          ∀ src, (t.source src).sticky = false ∧ (t.source src).count = 0 ∧ (t.source src).lastTrunk = none) := by
  by_cases hsite : straps.site = 0 ∨ straps.site = 255
  · rw [if_pos hsite] at h
    subst h
    rw [if_pos hsite]
    have hsource (src : FaultSource) := State.source_recordOccurrence (s.afterPowerOn straps made) .peerIdentity src none
    simp only [State.source_afterPowerOn] at hsource
    refine ⟨fun src => ?_, ?_, ?_, fun src => ?_⟩
    · rw [hsource]
      split
      · next he => subst he; exact ⟨rfl, rfl⟩
      · exact ⟨rfl, rfl⟩
    · rw [State.hold_recordOccurrence, State.source_afterPowerOn]; rfl
    · rw [State.first_recordOccurrence, State.source_afterPowerOn]; rfl
    · rw [hsource]
      split
      · next he => subst he; exact ⟨rfl, rfl, rfl⟩
      · next he => exact ⟨(decide_eq_false he).symm, rfl, rfl⟩
  · rw [if_neg hsite] at h
    subst h
    rw [if_neg hsite]
    exact ⟨fun src => by rw [State.source_afterPowerOn]; exact ⟨rfl, rfl⟩, rfl, rfl,
      fun src => by rw [State.source_afterPowerOn]; exact ⟨rfl, rfl, rfl⟩⟩

/-- Settles O3. -/
theorem powerOnResetGivesPowerOnValues : Obligations.PowerOnResetGivesPowerOnValues := by
  refine ⟨fun straps made s => ?_, fun straps s a w x y hsound hunit hset => ?_,
    fun straps made s u hunit => ?_⟩
  · obtain ⟨t, hexec, hframe, hcollector⟩ := exec_powerOnReset_frame straps made s
    have hview (p : Port) : t.view p = none :=
      (congrArg (State.view · p) hframe).trans (s.view_afterPowerOn straps made p)
    have hslot (p : Port) : t.slot p = s.slotAfterReset p :=
      (congrArg (State.slot · p) hframe).trans (s.slot_afterPowerOn straps made p)
    have hlink : t.link = initialLink := congrArg State.link hframe
    have hstore : t.store = s.storeCutShort made := congrArg State.store hframe
    obtain ⟨hmasks, hhold, hfirst⟩ := State.collector_afterPowerOn hcollector
    refine ⟨t, hexec, congrArg State.straps hframe,
      fun p => (congrArg (State.trunk · p) hframe).trans (s.trunk_afterPowerOn straps made p),
      fun F => (congrArg (State.boundTo · F) hframe).trans (s.boundTo_afterPowerOn straps made F),
      congrArg State.armedList hframe, congrArg State.links hframe, congrArg State.sweeps hframe,
      congrArg State.arbiter hframe, congrArg State.timing hframe, by rw [hlink]; rfl, by rw [hlink]; rfl,
      by rw [hlink]; rfl, by rw [hlink]; rfl, by rw [hlink]; rfl, hview, by rw [hlink]; rfl, by rw [hlink]; rfl,
      by rw [hlink]; rfl, congrArg State.channel hframe, congrArg (fun u => u.port.cycle) hframe, fun hfree => ?_,
      hmasks, hhold, hfirst, congrArg (fun u => u.image.state) hframe, fun p => ?_⟩
    · rw [hstore, State.storeCutShort, hfree]
    · have hp := hslot p
      rw [State.slotAfterReset] at hp
      cases hi : s.image.state with
      | ready | loading => simp only [hi] at hp ⊢; exact hp
      | programming q c => simp only [hi] at hp ⊢; rw [hp]; simp only [eq_comm]
      | erasing =>
        simp only [hi] at hp ⊢
        rw [hp]
        cases s.slot p <;> simp
  · obtain ⟨t, hexec, hframe, -⟩ := exec_powerOnReset_frame straps 1 s
    refine ⟨t, hexec, fun z => ?_⟩
    have hcut : s.storeCutShort 1 = (s.writeWord x (s.translateWrite w)).store := by
      simp [State.storeCutShort_busy hunit, State.unitAccesses, State.processorWrites, hset, storeAfter,
        State.writeWord]
    have hstore : t.store = (s.writeWord x (s.translateWrite w)).store := (congrArg State.store hframe).trans hcut
    rw [← State.readWord_writeWord x z _ hsound, State.readWord, hstore, State.readWord]
  · obtain ⟨t, hexec, hframe, -⟩ := exec_powerOnReset_frame straps made s
    have hstore : t.store = s.storeCutShort made := congrArg State.store hframe
    refine ⟨t, hexec, fun hmade => ?_, fun hmade hrewrites => ?_, fun hreads => ?_, fun hmade hkind => ?_⟩
    · rw [hstore]
      exact State.storeCutShort_of_reads hunit (by simp [hmade])
    · rw [hstore, hmade]
      exact State.storeCutShort_of_reads hunit (State.unitAccesses_take_one hrewrites)
    · rw [hstore]
      exact State.storeCutShort_of_reads hunit fun access h =>
        State.unitAccesses_of_reader hreads access (List.mem_of_mem_take h)
    · rw [hstore]
      exact State.storeCutShort_of_all_made hunit hmade hkind

end Sys2Proof.Machine
end

section
/-! SUPPORT. Occurrences taken in order, and the power-on load (O6), slot by slot. -/

namespace Sys2Proof.Machine

/-! ## Occurrences taken in order (R180) -/

/-- What the collector makes of an occurrence depends on the collector and M alone. -/
theorem State.faults_recordOccurrence_congr {s t : State} (hf : s.faults = t.faults) (ht : s.timing = t.timing)
    (src : FaultSource) (o : Option Port) :
    (s.recordOccurrence src o).faults = (t.recordOccurrence src o).faults := by
  have hsource : s.source src = t.source src := by rw [State.source, State.source, hf]
  cases hm : (t.source src).mask <;> cases hfirst : t.faults.first <;> by_cases hc : (t.source src).cls = .hold <;>
    simp [State.recordOccurrence, State.captureFirst, State.setSource, State.setHold, hsource, hm, hf, hfirst, hc,
      ht]

theorem State.foldl_recordOccurrence_eq (s : State) (os : List Occurrence) :
    os.foldl (fun s o => s.recordOccurrence o.1 o.2) s = { s with faults := s.collected os } := by
  unfold State.collected
  induction os generalizing s with
  | nil => rfl
  | cons o rest ih =>
    rw [List.foldl_cons, ih]
    simp

@[simp] theorem State.collected_nil (s : State) : s.collected [] = s.faults := rfl

theorem State.collected_cons (s : State) (o : Occurrence) (os : List Occurrence) :
    s.collected (o :: os) = (s.recordOccurrence o.1 o.2).collected os := rfl

theorem State.collected_singleton (s : State) (src : FaultSource) (o : Option Port) :
    s.collected [(src, o)] = (s.recordOccurrence src o).faults := rfl

theorem State.collected_append (s : State) (os more : List Occurrence) :
    s.collected (os ++ more) = ({ s with faults := s.collected os } : State).collected more := by
  rw [← State.foldl_recordOccurrence_eq]
  simp [State.collected, List.foldl_append]

/-- The collector after occurrences depends on the collector and M alone. -/
theorem State.collected_congr {s t : State} (hf : s.faults = t.faults) (ht : s.timing = t.timing)
    (os : List Occurrence) : s.collected os = t.collected os := by
  induction os generalizing s t with
  | nil => exact hf
  | cons o rest ih =>
    rw [State.collected_cons, State.collected_cons]
    exact ih (State.faults_recordOccurrence_congr hf ht _ _) (by simpa using ht)

/-! ## The power-on load (R34 to R36) -/

/-- What the load makes of slot `p` (R34, R35), read off the state it ends in. -/
def State.slotLoaded (s t : State) (p : Port) : Prop :=
  match s.slot p with
  | .blank | .failing => t.trunk p = TrunkRecord.freeRecord
  | .good c =>
    match mapOfBytes c.map.toList, fibrePortOf c.fibre.toNat with
    | some m, some F =>
      let skipped := c.copper ≠ p ∨ validMap m = false ∨
        ∃ q b, q < p ∧ (t.trunk q).binding = some b ∧ (b.fibre = F ∨ b.circuit = c.circuit)
      (skipped → t.trunk p = TrunkRecord.freeRecord) ∧
      (¬ skipped → t.boundTo F = some p ∧ t.trunk p = installedRecord c F m)
    | _, _ => t.trunk p = TrunkRecord.freeRecord

/-- The occurrences of a load that has examined the slots of these ports. -/
def State.loadOccurrences (s t : State) (ps : List Port) : List Occurrence :=
  (ps.filter (fun p => s.slot p != .blank && (t.trunk p).binding.isNone)).map (fun p => (.imageRecord, some p))

/-- `t` is `s` after the load has examined the slots below `n`. -/
structure State.LoadedTo (s t : State) (n : Nat) : Prop where
  frame : t = { s with trunks := t.trunks, fibreTable := t.fibreTable, faults := t.faults }
  free : ∀ p : Port, n ≤ p.val → t.trunk p = TrunkRecord.freeRecord
  table : ∀ F p, t.boundTo F = some p ↔ ∃ b, (t.trunk p).binding = some b ∧ b.fibre = F
  faults : t.faults = s.collected (s.loadOccurrences t (allPorts.take n))
  slots : ∀ p : Port, p.val < n → s.slotLoaded t p

theorem State.circuitHeld_iff (s : State) (circuit : Word) :
    s.circuitHeld circuit = true ↔ ∃ q b, (s.trunk q).binding = some b ∧ b.circuit = circuit := by
  simp only [State.circuitHeld, List.any_eq_true]
  constructor
  · rintro ⟨q, -, hq⟩
    split at hq
    · next b hb => exact ⟨q, b, hb, of_decide_eq_true hq⟩
    · contradiction
  · rintro ⟨q, b, hb, hc⟩
    exact ⟨q, List.mem_finRange q, by simp [hb, hc]⟩

theorem mem_take_allPorts {n : Nat} {p : Port} (h : p ∈ allPorts.take n) : p.val < n := by
  obtain ⟨i, hi, rfl⟩ := List.mem_take_iff_getElem.mp h
  simp [allPorts]
  omega

theorem take_succ_allPorts (p : Port) : allPorts.take (p.val + 1) = allPorts.take p.val ++ [p] := by
  rw [List.take_add_one]
  simp [allPorts, p.isLt]

/-- The record of a port below that of the slot examined. -/
theorem State.slotLoaded_congr {s t u : State} {p : Port} (htrunk : ∀ q ≤ p, u.trunk q = t.trunk q)
    (htable : ∀ F, t.boundTo F = some p → u.boundTo F = some p) (h : s.slotLoaded t p) : s.slotLoaded u p := by
  unfold State.slotLoaded at h ⊢
  rw [htrunk p (Nat.le_refl _)]
  split at h
  · exact h
  · exact h
  · split at h
    · have hq : ∀ q b (c : SlotRecord) (F : FibrePort),
          (q < p ∧ (u.trunk q).binding = some b ∧ (b.fibre = F ∨ b.circuit = c.circuit)) ↔
            (q < p ∧ (t.trunk q).binding = some b ∧ (b.fibre = F ∨ b.circuit = c.circuit)) := by
        intro q b c F
        exact and_congr_right fun hq => by rw [htrunk q (Fin.le_of_lt hq)]
      simp only [hq]
      exact ⟨h.1, fun hn => ⟨htable _ (h.2 hn).1, (h.2 hn).2⟩⟩
    · exact h

/-- The records of a slot that is examined and not installed. -/
theorem State.LoadedTo.skip {s t : State} {p : Port} (h : s.LoadedTo t p.val) (hslot : s.slot p ≠ .blank)
    (hidle : s.arbiter.inProgress = none)
    (hloaded : s.slotLoaded t p) : s.LoadedTo (t.raise .imageRecord (some p)) (p.val + 1) := by
  have hfree := h.free p (Nat.le_refl _)
  have harbiter : t.arbiter.inProgress = none := by rw [h.frame]; exact hidle
  rw [State.raise_of_free (by rw [State.phase, hfree]; rfl) harbiter]
  have htrunk (q : Port) : (t.recordOccurrence .imageRecord (some p)).trunk q = t.trunk q :=
    State.trunk_congr (State.recordOccurrence_trunks ..) q
  have hbound (F : FibrePort) : (t.recordOccurrence .imageRecord (some p)).boundTo F = t.boundTo F := by
    simp [State.boundTo]
  refine ⟨?_, fun q hq => ?_, fun F q => ?_, ?_, fun q hq => ?_⟩
  · rw [State.recordOccurrence_eq, h.frame]
  · rw [htrunk, h.free q (by omega)]
  · rw [hbound, htrunk, h.table]
  · have hnone : (t.trunk p).binding.isNone = true := by rw [hfree]; rfl
    have hlist : s.loadOccurrences (t.recordOccurrence .imageRecord (some p)) (allPorts.take (p.val + 1)) =
        s.loadOccurrences t (allPorts.take p.val) ++ [(.imageRecord, some p)] := by
      simp [State.loadOccurrences, take_succ_allPorts, htrunk, hslot, hnone]
    rw [hlist, State.collected_append, ← h.faults]
    have htiming : t.timing = s.timing := by rw [h.frame]
    rw [State.collected_singleton]
    exact State.faults_recordOccurrence_congr (s := t) (t := { s with faults := t.faults }) rfl htiming _ _
  · rcases Nat.lt_succ_iff_lt_or_eq.mp hq with hlt | heq
    · exact State.slotLoaded_congr (fun r _ => htrunk r) (fun F hF => by rw [hbound, hF]) (h.slots q hlt)
    · obtain rfl : q = p := Fin.ext heq
      exact State.slotLoaded_congr (fun r _ => htrunk r) (fun F hF => by rw [hbound, hF]) hloaded

/-- A blank slot leaves everything as it is. -/
theorem State.LoadedTo.blank {s t : State} {p : Port} (h : s.LoadedTo t p.val) (hslot : s.slot p = .blank) :
    s.LoadedTo t (p.val + 1) := by
  refine ⟨h.frame, fun q hq => h.free q (by omega), h.table, ?_, fun q hq => ?_⟩
  · rw [h.faults]
    congr 1
    simp [State.loadOccurrences, take_succ_allPorts, hslot]
  · rcases Nat.lt_succ_iff_lt_or_eq.mp hq with hlt | heq
    · exact h.slots q hlt
    · obtain rfl : q = p := Fin.ext heq
      simp only [State.slotLoaded, hslot]
      exact h.free q (Nat.le_refl _)

/-- A slot that is installed. -/
theorem State.LoadedTo.install {s t : State} {p : Port} {c : SlotRecord} {F : FibrePort} {m : ChannelMap}
    (h : s.LoadedTo t p.val) (hslot : s.slot p ≠ .blank) (hport : t.boundTo F = none)
    (hloaded : s.slotLoaded ((t.setTrunk p (installedRecord c F m)).setBoundTo F (some p)) p) :
    s.LoadedTo ((t.setTrunk p (installedRecord c F m)).setBoundTo F (some p)) (p.val + 1) := by
  have htrunk (q : Port) : ((t.setTrunk p (installedRecord c F m)).setBoundTo F (some p)).trunk q =
      if q = p then installedRecord c F m else t.trunk q := t.trunk_setTrunk p q _
  have hbound (G : FibrePort) : ((t.setTrunk p (installedRecord c F m)).setBoundTo F (some p)).boundTo G =
      if G = F then some p else t.boundTo G := State.boundTo_setBoundTo _ F G _
  have hbelow (q : Port) (hq : q.val < p.val) : q ≠ p := fun e => by rw [e] at hq; exact Nat.lt_irrefl _ hq
  refine ⟨?_, fun q hq => ?_, fun G q => ?_, ?_, fun q hq => ?_⟩
  · conv => lhs; rw [h.frame]
    rfl
  · rw [htrunk, if_neg (by rintro rfl; omega), h.free q (by omega)]
  · rw [hbound, htrunk]
    by_cases hq : q = p
    · subst hq
      have hnone (G : FibrePort) : t.boundTo G ≠ some q := by
        rw [Ne, h.table]
        simp [h.free q (Nat.le_refl _), TrunkRecord.freeRecord]
      by_cases hG : G = F
      · simp [hG, installedRecord]
      · have : F ≠ G := fun e => hG e.symm
        simp [hG, installedRecord, hnone, this]
    · rw [if_neg hq, ← h.table]
      by_cases hG : G = F
      · subst hG
        simp [hport, Ne.symm hq]
      · simp [hG]
  · have hlist : s.loadOccurrences ((t.setTrunk p (installedRecord c F m)).setBoundTo F (some p))
        (allPorts.take (p.val + 1)) = s.loadOccurrences t (allPorts.take p.val) := by
      unfold State.loadOccurrences
      rw [take_succ_allPorts, List.filter_append]
      simp only [htrunk]
      rw [show List.filter _ [p] = [] by simp [installedRecord], List.append_nil]
      congr 1
      refine List.filter_congr fun q hq => ?_
      rw [if_neg (hbelow q (mem_take_allPorts hq))]
    rw [hlist, ← h.faults]
    rfl
  · rcases Nat.lt_succ_iff_lt_or_eq.mp hq with hlt | heq
    · refine State.slotLoaded_congr (fun r hr => ?_) (fun G hG => ?_) (h.slots q hlt)
      · rw [htrunk, if_neg (hbelow r (Nat.lt_of_le_of_lt hr hlt))]
      · rw [hbound, if_neg, hG]
        rintro rfl
        rw [hport] at hG
        contradiction
    · obtain rfl : q = p := Fin.ext heq
      exact hloaded

/-- What a slot must pass to be installed (R34). -/
def State.passesLoad (t : State) (p : Port) (c : SlotRecord) (F : FibrePort) (m : ChannelMap) : Prop :=
  c.copper = p ∧ validMap m = true ∧ t.boundTo F = none ∧ t.circuitHeld c.circuit = false

theorem State.installable_of_passes {t : State} {p : Port} {c : SlotRecord} {F : FibrePort} {m : ChannelMap}
    (hm : mapOfBytes c.map.toList = some m) (hF : fibrePortOf c.fibre.toNat = some F)
    (h : t.passesLoad p c F m) : t.installable p c = some (F, m) := by
  obtain ⟨hcopper, hvalid, hport, hheld⟩ := h
  simp [State.installable, hm, hF, hcopper, hvalid, hport, hheld]

theorem State.installable_of_not_passes {t : State} {p : Port} {c : SlotRecord} {F : FibrePort} {m : ChannelMap}
    (hm : mapOfBytes c.map.toList = some m) (hF : fibrePortOf c.fibre.toNat = some F)
    (h : ¬ t.passesLoad p c F m) : t.installable p c = none := by
  rw [Option.eq_none_iff_forall_ne_some]
  rintro ⟨G, n⟩ hi
  obtain ⟨hvalid, hport, hheld⟩ := State.installable_eq_some hi
  by_cases hcopper : c.copper = p
  · simp only [State.installable, hcopper, hm, hF, bne_self_eq_false, Bool.false_eq_true, if_false] at hi
    split at hi
    · obtain ⟨rfl, rfl⟩ := Prod.mk.inj (Option.some.inj hi)
      exact h ⟨hcopper, hvalid, hport, hheld⟩
    · contradiction
  · simp [State.installable, hcopper] at hi

theorem State.installable_of_unmapped {t : State} {p : Port} {c : SlotRecord}
    (h : mapOfBytes c.map.toList = none ∨ fibrePortOf c.fibre.toNat = none) : t.installable p c = none := by
  unfold State.installable
  split
  · rfl
  · rcases h with h | h
    · simp [h]
    · cases hm : mapOfBytes c.map.toList <;> simp [h]

/-- Whether a slot is skipped, as the load finds it: the records below hold all that is held (R34). -/
theorem State.LoadedTo.skipped_iff {s t : State} {p : Port} (h : s.LoadedTo t p.val) (c : SlotRecord) (F : FibrePort)
    (m : ChannelMap) :
    (c.copper ≠ p ∨ validMap m = false ∨
      ∃ q b, q < p ∧ (t.trunk q).binding = some b ∧ (b.fibre = F ∨ b.circuit = c.circuit)) ↔
      ¬ t.passesLoad p c F m := by
  have hbelow : ∀ q b, (t.trunk q).binding = some b → q < p := by
    intro q b hb
    refine Decidable.byContradiction fun hle => ?_
    rw [h.free q (Nat.le_of_not_lt hle)] at hb
    contradiction
  have hheld : (∃ q b, q < p ∧ (t.trunk q).binding = some b ∧ (b.fibre = F ∨ b.circuit = c.circuit)) ↔
      ¬ t.boundTo F = none ∨ ¬ t.circuitHeld c.circuit = false := by
    rw [Bool.not_eq_false, State.circuitHeld_iff, ← ne_eq, Option.ne_none_iff_exists']
    simp only [h.table]
    constructor
    · rintro ⟨q, b, -, hb, hF | hc⟩
      · exact .inl ⟨q, b, hb, hF⟩
      · exact .inr ⟨q, b, hb, hc⟩
    · rintro (⟨q, b, hb, hF⟩ | ⟨q, b, hb, hc⟩)
      · exact ⟨q, b, hbelow q b hb, hb, .inl hF⟩
      · exact ⟨q, b, hbelow q b hb, hb, .inr hc⟩
  rw [hheld, State.passesLoad, Classical.not_and_iff_not_or_not, Classical.not_and_iff_not_or_not, Classical.not_and_iff_not_or_not, Bool.not_eq_true]

theorem State.slotLoaded_of_good {s t : State} {p : Port} {c : SlotRecord} {F : FibrePort} {m : ChannelMap}
    (hslot : s.slot p = .good c) (hm : mapOfBytes c.map.toList = some m)
    (hF : fibrePortOf c.fibre.toNat = some F) :
    s.slotLoaded t p ↔
      ((c.copper ≠ p ∨ validMap m = false ∨
          ∃ q b, q < p ∧ (t.trunk q).binding = some b ∧ (b.fibre = F ∨ b.circuit = c.circuit)) →
        t.trunk p = TrunkRecord.freeRecord) ∧
      (¬ (c.copper ≠ p ∨ validMap m = false ∨
          ∃ q b, q < p ∧ (t.trunk q).binding = some b ∧ (b.fibre = F ∨ b.circuit = c.circuit)) →
        t.boundTo F = some p ∧ t.trunk p = installedRecord c F m) := by
  simp only [State.slotLoaded, hslot, hm, hF]

theorem State.slotLoaded_of_unmapped {s t : State} {p : Port} {c : SlotRecord} (hslot : s.slot p = .good c)
    (h : mapOfBytes c.map.toList = none ∨ fibrePortOf c.fibre.toNat = none) :
    s.slotLoaded t p ↔ t.trunk p = TrunkRecord.freeRecord := by
  simp only [State.slotLoaded, hslot]
  rcases h with h | h
  · simp only [h]
  · cases hm : mapOfBytes c.map.toList <;> simp only [h]

/-- One slot more is examined. -/
theorem State.LoadedTo.loadSlot {s t : State} {p : Port} (h : s.LoadedTo t p.val)
    (hidle : s.arbiter.inProgress = none) : s.LoadedTo (t.loadSlot p) (p.val + 1) := by
  have hfree := h.free p (Nat.le_refl _)
  have hsame : t.slot p = s.slot p := by rw [h.frame]; rfl
  unfold State.loadSlot
  rw [hsame]
  cases hslot : s.slot p with
  | blank => exact h.blank hslot
  | failing => exact h.skip (by simp [hslot]) hidle (by simp only [State.slotLoaded, hslot]; exact hfree)
  | good c =>
    have hne : s.slot p ≠ .blank := by simp [hslot]
    by_cases hunmapped : mapOfBytes c.map.toList = none ∨ fibrePortOf c.fibre.toNat = none
    · simp only [State.installable_of_unmapped hunmapped]
      exact h.skip hne hidle ((State.slotLoaded_of_unmapped hslot hunmapped).mpr hfree)
    · obtain ⟨hm, hF⟩ := not_or.mp hunmapped
      obtain ⟨m, hm⟩ := Option.ne_none_iff_exists'.mp hm
      obtain ⟨F, hF⟩ := Option.ne_none_iff_exists'.mp hF
      have hgood := fun t => State.slotLoaded_of_good (t := t) hslot hm hF
      by_cases hpass : t.passesLoad p c F m
      · simp only [State.installable_of_passes hm hF hpass]
        refine h.install hne hpass.2.2.1 ((hgood _).mpr ⟨fun hskipped => ?_, fun _ => ⟨?_, ?_⟩⟩)
        · refine absurd hpass ((h.skipped_iff c F m).mp (hskipped.imp_right (.imp_right ?_)))
          rintro ⟨q, b, hq, hb, hheld⟩
          have htrunk : ((t.setTrunk p (installedRecord c F m)).setBoundTo F (some p)).trunk q = t.trunk q :=
            t.trunk_setTrunk_ne _ (Fin.ne_of_lt hq)
          exact ⟨q, b, hq, htrunk ▸ hb, hheld⟩
        · rw [State.boundTo_setBoundTo, if_pos rfl]
        · exact t.trunk_setTrunk_self p _
      · simp only [State.installable_of_not_passes hm hF hpass]
        exact h.skip hne hidle ((hgood _).mpr ⟨fun _ => hfree, fun hn =>
          absurd ((h.skipped_iff c F m).mpr hpass) hn⟩)

/-- The load examines the slots in ascending order. -/
theorem State.loadedTo_of_le {s : State} (hfree : ∀ p, s.trunk p = TrunkRecord.freeRecord)
    (htable : ∀ F, s.boundTo F = none) (hidle : s.arbiter.inProgress = none) {n : Nat} (hn : n ≤ 64) :
    s.LoadedTo ((allPorts.take n).foldl State.loadSlot s) n := by
  induction n with
  | zero =>
    refine ⟨rfl, fun p _ => hfree p, fun F p => ?_, rfl, fun p hp => absurd hp (Nat.not_lt_zero _)⟩
    simp [htable, hfree, TrunkRecord.freeRecord]
  | succ n ih =>
    have hloaded := (ih (by omega)).loadSlot (p := ⟨n, hn⟩) hidle
    rw [take_succ_allPorts ⟨n, hn⟩, List.foldl_append]
    exact hloaded

theorem State.loadedTo_allPorts {s : State} (hfree : ∀ p, s.trunk p = TrunkRecord.freeRecord)
    (htable : ∀ F, s.boundTo F = none) (hidle : s.arbiter.inProgress = none) :
    s.LoadedTo (allPorts.foldl State.loadSlot s) 64 := by
  have h := State.loadedTo_of_le hfree htable hidle (Nat.le_refl _)
  rwa [List.take_of_length_le (by simp [allPorts])] at h

/-- The end of a load that has examined every slot: the image is READY, and a cycle that was held is classed, a store
cycle granted (R36, R45). -/
theorem State.classHeld_resume {u : State} (hidle : u.arbiter.inProgress = none) (hwaiting : u.arbiter.waiting = none)
    (hsweeps : u.sweeps = []) (hdue : u.due = []) :
    u.classHeld.resume = { u with port := u.classHeld.resume.port, arbiter := u.classHeld.resume.arbiter } ∧
      match u.port.cycle with
      | some { cycle := c, cls := none } =>
        if cycleAddress c = windowAddress u.straps.win ∧ u.channelClosed = false then
          u.classHeld.resume.port = { u.port with cycle := some { cycle := c, cls := some .channel } } ∧
            u.classHeld.resume.arbiter = u.arbiter
        else
          u.classHeld.resume.port = { u.port with cycle := some { cycle := c, cls := some .store } } ∧
            u.classHeld.resume.arbiter =
              { inProgress := some (.processor (cycleUnit c)), waiting := none, allowance := 0 }
      | _ => u.classHeld.resume.port = u.port ∧ u.classHeld.resume.arbiter = u.arbiter := by
  rcases hcycle : u.port.cycle with _ | ⟨c, _ | cls⟩
  · simp only [State.classHeld, hcycle, State.resume_idle hwaiting hsweeps, and_self]
  · simp only [State.classHeld, hcycle]
    by_cases hwindow : u.atWindow c
    · have hresume := State.resume_idle (s := u.classCycle c)
        (by rw [State.classCycle_of_atWindow hwindow]; exact hwaiting)
        (by rw [State.classCycle_of_atWindow hwindow]; exact hsweeps)
      rw [hresume, State.classCycle_of_atWindow hwindow]
      exact ⟨rfl, by simp [hwindow]⟩
    · have hact := State.channelAct_of_storeCycle (c := c) (s := u.classCycle c)
        (by rw [State.classCycle_of_not_atWindow hwindow])
      have hwaits : (u.classCycle c).eventWaits = false := by
        rw [State.eventWaits, hact, State.classCycle_of_not_atWindow hwindow]
        simp [hdue]
      have hresume := State.resume_grants_waiting (u := cycleUnit c) (s := u.classCycle c)
        (by rw [State.classCycle_of_not_atWindow hwindow]; exact hidle)
        (by rw [State.classCycle_of_not_atWindow hwindow])
        (by rw [State.classCycle_of_not_atWindow hwindow]; exact hsweeps) hwaits
      rw [hresume, State.classCycle_of_not_atWindow hwindow]
      exact ⟨rfl, by simp only [if_neg hwindow, and_self]⟩
  · simp only [State.classHeld, hcycle, State.resume_idle hwaiting hsweeps, and_self]

/-- Settles O6. -/
theorem imageLoadInstallsTheGoodSlots : Obligations.ImageLoadInstallsTheGoodSlots := by
  intro s hs hload hidle hwaiting hsweeps hfree htable
  have hdue : s.due = [] := by
    simp only [State.somethingDue, State.eventWaits, Bool.or_eq_false_iff, Bool.not_eq_false',
      List.isEmpty_iff] at hs
    exact hs.2.1
  have hsettle : s.settle = s := by rw [State.settle_of_nothing_due hs, State.resume_idle hwaiting hsweeps]
  have hloaded := State.loadedTo_allPorts hfree htable hidle
  generalize hv : allPorts.foldl State.loadSlot s = v at hloaded
  have hexec : exec .imageLoad s = .next (v.setImageState .ready).classHeld.resume := by
    simp only [exec, execImageLoad, hsettle, hload, if_true, hv]
  obtain ⟨hframe, hcycle⟩ := State.classHeld_resume (u := v.setImageState .ready)
    (by rw [hloaded.frame]; exact hidle) (by rw [hloaded.frame]; exact hwaiting)
    (by rw [hloaded.frame]; exact hsweeps) (by rw [hloaded.frame]; exact hdue)
  generalize (v.setImageState .ready).classHeld.resume = t at hexec hframe hcycle
  have htrunk (p : Port) : t.trunk p = v.trunk p := (congrArg (State.trunk · p) hframe :)
  have hbound (F : FibrePort) : t.boundTo F = v.boundTo F := (congrArg (State.boundTo · F) hframe :)
  refine ⟨t, hexec, by rw [hframe]; rfl, fun p => ?_, ?_, ?_, ?_, fun F p => ?_, ?_, ?_, fun p => ?_⟩
  · rw [hframe, hloaded.frame]; rfl
  · rw [hframe, hloaded.frame]; rfl
  · rw [hframe, hloaded.frame]; rfl
  · obtain ⟨trunks, table, faults, hv⟩ : ∃ trunks table faults,
        v = { s with trunks := trunks, fibreTable := table, faults := faults } := ⟨_, _, _, hloaded.frame⟩
    rw [hframe, hv]
    rfl
  · rw [hbound, htrunk, hloaded.table]
  · have hfaults : t.faults = v.faults := by rw [hframe]; rfl
    rw [hfaults, hloaded.faults, State.loadOccurrences, List.take_of_length_le (by simp [allPorts])]
    simp only [htrunk]
  · rw [hloaded.frame] at hcycle
    exact hcycle
  · exact State.slotLoaded_congr (fun q _ => htrunk q) (fun F hF => by rw [hbound, hF]) (hloaded.slots p p.isLt)

end Sys2Proof.Machine
end

section
/-! SUPPORT. The session of the control channel: window writes (O17), the knock and window reads (O18). -/

namespace Sys2Proof.Machine

/-! ## What the channel does with the cycle that the port keeps (R193, R194, R196) -/

theorem State.midEvent_of_nothing_due {s : State} (h : s.due = []) : s.midEvent = false := by
  simp [State.midEvent, h]

theorem State.channelAct_of_read {s : State} {a : Listed}
    (hcycle : s.port.cycle = some { cycle := .read a, cls := some .channel }) (hraw : s.rawPending = false)
    (hdue : s.due = []) (hopen : s.channelClosed = false) : s.channelAct = some .read := by
  have hmid := State.midEvent_of_nothing_due hdue
  unfold State.channelClosed at hopen
  cases hstate : s.channel.state <;> simp_all [State.channelAct]

/-- In OPEN or ANSWERING a window write is taken as a command word (R193, R196). -/
theorem State.channelAct_of_commandWord {s : State} {a : Listed} {w : Word}
    (hcycle : s.port.cycle = some { cycle := .write a w, cls := some .channel }) (hraw : s.rawPending = false)
    (hdue : s.due = []) (hstate : s.channel.state = .opened ∨ ∃ words n, s.channel.state = .answering words n) :
    s.channelAct = some (actOfCommandWord w) := by
  have hmid := State.midEvent_of_nothing_due hdue
  rcases hstate with hstate | ⟨words, n, hstate⟩ <;> simp [State.channelAct, hcycle, hraw, hmid, hstate]

/-- In COLLECTING a window write joins the command, or completes it (R194). -/
theorem State.channelAct_of_collecting {s : State} {a : Listed} {w command : Word} {taken : List Word}
    {required : Nat} (hcycle : s.port.cycle = some { cycle := .write a w, cls := some .channel })
    (hraw : s.rawPending = false) (hdue : s.due = []) (hstate : s.channel.state = .collecting command taken required) :
    s.channelAct =
      if taken.length + 1 < required then some (.parameterWord w)
      else (commandOfCode (highByte command)).map fun c => .execute c (lowByte command) (taken ++ [w]) := by
  have hmid := State.midEvent_of_nothing_due hdue
  simp [State.channelAct, hcycle, hraw, hmid, hstate]

/-! ## Window writes (O17) -/

/-- A word that joins the session leaves the rest of the part as it is. -/
theorem State.resumed_giveReady (s : State) (channel : Channel) :
    (({ s with channel := channel } : State).giveReady.resume).channel = channel ∧
      (({ s with channel := channel } : State).giveReady.resume).port = { s.port with cycle := none } ∧
      ({ s with channel := channel } : State).giveReady.resume =
        { s with
          port := (({ s with channel := channel } : State).giveReady.resume).port
          channel := (({ s with channel := channel } : State).giveReady.resume).channel
          sweeps := (({ s with channel := channel } : State).giveReady.resume).sweeps
          arbiter := (({ s with channel := channel } : State).giveReady.resume).arbiter } ∧
      (({ s with channel := channel } : State).giveReady.resume).sweepQueue = s.sweepQueue := by
  refine ⟨by simp, by simp [State.giveReady], ?_, ?_⟩
  · rw [State.resume_eq]; rfl
  · rw [State.resume_sweepQueue]; rfl

theorem actOfCommandWord_of_known {w : Word} {k : Command} (h : commandOfCode (highByte w) = some k) :
    actOfCommandWord w = if k.parameterWords = 0 then .execute k (lowByte w) [] else .commandWord w := by
  simp only [actOfCommandWord, h]

theorem State.serveUnknown_of_act {s : State} (h : s.channelAct = some .unknown)
    (hclass : s.dispatches .channelProtocol = false) :
    s.serveUnknown = (State.respond (s.recordOccurrence .channelProtocol none, .unknown, [])).resume := by
  simp only [State.serveUnknown, h]
  rw [State.raise_of_not_dispatches (by rw [State.dispatches_recordOccurrence]; exact hclass)]

/-- Settles O17. -/
theorem sessionTakesWindowWrites : Obligations.SessionTakesWindowWrites := by
  refine ⟨fun s a w hcycle hraw hdue => ⟨fun k hstate hk => ?_, fun k command taken required hstate => ?_⟩,
    fun s a w hcycle hraw hdue hstate => ?_⟩
  · have hact := State.channelAct_of_commandWord hcycle hraw hdue hstate
    rw [actOfCommandWord_of_known hk] at hact
    refine ⟨fun hwords => ⟨s.serveCommandWord, rfl, ?_⟩, fun hwords => by rw [State.completes, hact, if_pos hwords]⟩
    rw [if_neg (Nat.ne_of_gt hwords)] at hact
    simp only [State.serveCommandWord, hact, hk, Option.map_some, Option.getD_some]
    exact s.resumed_giveReady _
  · have hact := State.channelAct_of_collecting hcycle hraw hdue hstate
    refine ⟨fun hmore => ⟨s.serveParameterWord, rfl, ?_⟩, fun hlast hk => ?_⟩
    · rw [if_pos hmore] at hact
      simp only [State.serveParameterWord, hact, hstate]
      exact s.resumed_giveReady _
    · rw [if_neg (by omega), hk] at hact
      exact hact
  · have hact := State.channelAct_of_commandWord hcycle hraw hdue hstate
    refine ⟨fun hcode hclass => ⟨s.serveUnknown, rfl, ?_⟩, fun hcode => ⟨s.serveClose, rfl, ?_⟩⟩
    · rw [State.serveUnknown_of_act (by rw [hact, actOfCommandWord, hcode]) hclass]
      obtain ⟨⟨hchannel, hport⟩, hframe, hqueue⟩ :=
        State.answers_respond (s.recordOccurrence .channelProtocol none, .unknown, [])
      generalize (State.respond _).resume = t at hchannel hport hframe hqueue ⊢
      dsimp only at hport hframe hqueue
      rw [State.recordOccurrence_eq] at hframe hqueue
      refine ⟨⟨hchannel, by rw [hport]; simp⟩, by rw [hframe], ?_, hqueue⟩
      conv => lhs; rw [hframe]
      rw [hframe]
    · have hclose : commandOfCode (highByte w) = some .close := by rw [hcode]; rfl
      have hcompletes : s.completes .close (lowByte w) [] := by
        rw [State.completes, hact, actOfCommandWord_of_known hclose]; rfl
      obtain ⟨hframe, hqueue⟩ := State.serveClose_resumed hcompletes
      rw [State.closeSession_eq] at hframe hqueue
      refine ⟨by rw [hframe], by rw [hframe], ?_, hqueue⟩
      generalize s.serveClose = t at hframe
      rw [hframe]

/-! ## The knock (R192) -/

theorem State.finishUnit_channel {s : State} {u : StoreUnit} (h : s.arbiter.inProgress = some u) :
    s.finishUnit.resume.channel = (s.runUnit u).channel := by
  rw [State.resume_channel, State.finishUnit, State.atUnitEnd, State.moveCursorOf_eq]
  simp only [State.atBoundary, h]

/-- What the report of a served store cycle makes of the channel (R192). -/
theorem State.reportStoreCycle_channel (s : State) (a : Listed) (isRead : Bool) :
    (s.reportStoreCycle a isRead).channel = { s.channel with
      state := match s.channel.state with
        | .closed k =>
          if a = windowAddress s.straps.win ∧ isRead = true then (if k < 3 then .closed (k + 1) else .opened)
          else .closed 0
        | other => other } := by
  unfold State.reportStoreCycle
  cases h : s.channel.state with
  | closed k => simp
  | _ => simp [← h]

/-- The occurrences of a processor read (R39, R49). -/
def State.readFaults (s : State) (a : Listed) : List Occurrence :=
  (if parityFailed (s.readWord (s.readAddress a)) then [(.storeParity, none)] else []) ++
    (if s.readIsStray (s.readWord (s.readAddress a)) then [(.straySource, none)] else [])

/-- A processor read: its occurrences, the report to the channel, the word on the bus, and the dispatches. -/
theorem State.runProcessorRead_eq (s : State) (a : Listed) :
    s.runProcessorRead a =
      ((({ s with faults := s.collected (s.readFaults a) } : State).reportStoreCycle a true).giveReadyWith
        (s.translateRead (s.readWord (s.readAddress a)))).dispatchAll (s.readFaults a) := by
  unfold State.runProcessorRead State.readFaults raiseInUnit
  cases hp : parityFailed (s.readWord (s.readAddress a)) <;>
    cases hs : s.readIsStray (s.readWord (s.readAddress a)) <;>
    simp only [hp, hs, Bool.false_eq_true, if_false, if_true, List.append_nil, List.nil_append, List.singleton_append,
      State.collected_nil, ← State.foldl_recordOccurrence_eq, List.foldl_cons, List.foldl_nil]

theorem State.runProcessorRead_channel (s : State) (a : Listed) :
    (s.runProcessorRead a).channel = (s.reportStoreCycle a true).channel := by
  rw [State.runProcessorRead_eq]
  simp only [State.dispatchAll_channel, State.giveReadyWith_channel, State.reportStoreCycle_channel]

theorem State.runProcessorWrite_channel (s : State) (a : Listed) (w : Word) :
    (s.runProcessorWrite a w).channel = (s.reportStoreCycle a false).channel := by
  simp only [State.runProcessorWrite, State.dispatchAll_channel, State.giveReady_channel,
    State.reportStoreCycle_channel, State.writesReported_channel, State.writesReported_straps]

/-! ## Window reads (O18) -/

theorem State.giveReadyWith_frame (s : State) (w : Word) (channel : Channel) :
    (({ s with channel := channel } : State).giveReadyWith w).resume.port = { cycle := none, readData := w } ∧
      (({ s with channel := channel } : State).giveReadyWith w).resume.channel = channel ∧
      (({ s with channel := channel } : State).giveReadyWith w).resume =
        { s with
          port := (({ s with channel := channel } : State).giveReadyWith w).resume.port
          channel := (({ s with channel := channel } : State).giveReadyWith w).resume.channel
          sweeps := (({ s with channel := channel } : State).giveReadyWith w).resume.sweeps
          arbiter := (({ s with channel := channel } : State).giveReadyWith w).resume.arbiter } ∧
      (({ s with channel := channel } : State).giveReadyWith w).resume.sweepQueue = s.sweepQueue := by
  refine ⟨by simp [State.giveReadyWith], by simp, ?_, ?_⟩
  · rw [State.resume_eq]; rfl
  · rw [State.resume_sweepQueue]; rfl

theorem State.statusWord_congr {s t : State} (hf : s.faults = t.faults) (hi : s.image = t.image)
    (hc : s.channel = t.channel) : s.statusWord = t.statusWord := by
  simp [State.statusWord, State.alertLine, State.inHold, State.imageBusy, hf, hi, hc]

/-- A window read in COLLECTING, with CHANNEL_PROTOCOL of another class than FALLBACK or masked (R194). -/
theorem State.abandon_of_not_dispatches {s : State} (h : s.dispatches .channelProtocol = false) :
    s.abandon =
      ({ s with
        channel := { state := .opened, lastResult := .abandoned }
        faults := (s.recordOccurrence .channelProtocol none).faults } : State).giveReadyWith
        ({ s with
          channel := { state := .opened, lastResult := .abandoned }
          faults := (s.recordOccurrence .channelProtocol none).faults } : State).statusWord := by
  have hraise : ({ s with channel := { state := .opened, lastResult := .abandoned } } : State).raise
      .channelProtocol none =
      { s with
        channel := { state := .opened, lastResult := .abandoned }
        faults := (s.recordOccurrence .channelProtocol none).faults } := by
    have hfaults : (({ s with channel := { state := .opened, lastResult := .abandoned } } : State).recordOccurrence
        .channelProtocol none).faults = (s.recordOccurrence .channelProtocol none).faults := by
      apply State.faults_recordOccurrence_congr <;> rfl
    rw [State.raise_of_not_dispatches (by rw [State.dispatches_recordOccurrence]; exact h),
      State.recordOccurrence_eq, hfaults]
  simp only [State.abandon, hraise]

/-- Settles O18. -/
theorem sessionOpensAndAnswersReads : Obligations.SessionOpensAndAnswersReads := by
  refine ⟨fun s a => ⟨fun hunit => ⟨_, exec_row hunit, ?_⟩, fun w hunit => ⟨_, exec_row hunit, ?_⟩⟩,
    fun s a hcycle hraw hdue => ⟨fun hstate => ⟨s.serveChannelRead, rfl, ?_⟩,
      fun words n w hstate hw => ⟨s.serveChannelRead, rfl, ?_⟩,
      fun command taken required hstate hclass => ⟨s.serveChannelRead, rfl, ?_⟩⟩⟩
  · rw [State.finishUnit_channel hunit, State.runUnit, State.runProcessorRead_channel,
      State.reportStoreCycle_channel]
    cases s.channel.state <;> simp
  · rw [State.finishUnit_channel hunit, State.runUnit, State.runProcessorWrite_channel,
      State.reportStoreCycle_channel]
    cases s.channel.state <;> simp
  · have hact := State.channelAct_of_read hcycle hraw hdue (by simp [State.channelClosed, hstate])
    simp only [State.serveChannelRead, hact, hstate]
    obtain ⟨hport, hchannel, hframe, hqueue⟩ := s.giveReadyWith_frame s.statusWord s.channel
    rw [hchannel] at hframe
    exact ⟨hport, hframe, hqueue⟩
  · have hact := State.channelAct_of_read hcycle hraw hdue (by simp [State.channelClosed, hstate])
    simp only [State.serveChannelRead, hact, hstate, State.deliver]
    obtain ⟨hn, hword⟩ := List.getElem?_eq_some_iff.mp hw
    have hget : words.getD n 0 = w := by simp [List.getD, hw]
    have hnext : (if n + 1 < words.length then ChannelState.answering words (n + 1) else .opened) =
        if n + 1 = words.length then .opened else .answering words (n + 1) := by
      by_cases h : n + 1 = words.length
      · rw [if_pos h, if_neg (by omega)]
      · rw [if_neg h, if_pos (by omega)]
    rw [hget, hnext]
    exact s.giveReadyWith_frame w _
  · have hact := State.channelAct_of_read hcycle hraw hdue (by simp [State.channelClosed, hstate])
    simp only [State.serveChannelRead, hact, hstate, State.abandon_of_not_dispatches hclass]
    obtain ⟨hport, hchannel, hframe, hqueue⟩ :=
      ({ s with faults := (s.recordOccurrence .channelProtocol none).faults } : State).giveReadyWith_frame
        ({ s with
          channel := { state := .opened, lastResult := .abandoned }
          faults := (s.recordOccurrence .channelProtocol none).faults } : State).statusWord
        { state := .opened, lastResult := .abandoned }
    generalize (State.giveReadyWith _ _).resume = t at hport hchannel hframe hqueue ⊢
    have hfaults : t.faults = (s.recordOccurrence .channelProtocol none).faults := (congrArg State.faults hframe :)
    refine ⟨hchannel, hport.trans ?_, hfaults, ?_, hqueue⟩
    · have himage : t.image = s.image := (congrArg State.image hframe :)
      refine congrArg (ProcessorPort.mk none) ?_
      apply State.statusWord_congr
      · exact hfaults.symm
      · exact himage.symm
      · exact hchannel.symm
    · rw [← hfaults] at hframe
      exact hframe

end Sys2Proof.Machine
end

section
/-! SUPPORT. What a served command does, said once for every command (R41, R195), and its refusals (O19). -/

namespace Sys2Proof.Machine

/-! ## The row of a command -/

/-- Every command but CLOSE and READ_STORE is served at its row by its answer (R200). -/
theorem exec_commandRow (s : State) {c : Command} (hclose : c ≠ .close) (hread : c ≠ .readStore) :
    exec c.row s = .next (s.serve c c.answer) := by
  cases c
  case close => exact absurd rfl hclose
  case readStore => exact absurd rfl hread
  all_goals rfl

theorem exec_readStoreRow (s : State) : exec Command.readStore.row s = .next s.serveReadStore := rfl

/-- A READ_STORE that is refused answers as every command does. -/
theorem State.serveReadStore_of_refused {s : State} {target : Byte} {params : List Word}
    (h : s.completes .readStore target params)
    (hrefused : Answer.refused (Command.answer .readStore target params s) = true) :
    s.serveReadStore = (State.respond (Command.answer .readStore target params s)).resume := by
  unfold State.completes at h
  unfold State.serveReadStore
  simp only [h, Command.answer, deviceCommand] at hrefused ⊢
  cases ht : targetOf target with
  | noRecord =>
    simp only [ht] at hrefused ⊢
    by_cases hp : 4095 < (parameter params 0).toNat
    · simp only [hp, if_true]
    · simp [hp, Answer.refused, Result.refuses] at hrefused
  | _ => rfl

/-- A refused command is answered at once (R41). -/
theorem exec_refused {s : State} {c : Command} {target : Byte} {params : List Word}
    (h : s.completes c target params) (hrefused : Answer.refused (c.answer target params s) = true) :
    exec c.row s = .next (State.respond (c.answer target params s)).resume := by
  by_cases hclose : c = .close
  · subst hclose; simp [Command.answer, Answer.refused, Result.refuses] at hrefused
  by_cases hread : c = .readStore
  · subst hread; rw [exec_readStoreRow, State.serveReadStore_of_refused h hrefused]
  rw [exec_commandRow s hclose hread, State.serve_of_completes _ h, if_pos hrefused]

/-- A command refused with its state unchanged. -/
theorem refuses_of_answer {s : State} {c : Command} {target : Byte} {params : List Word} {r : Result}
    (h : s.completes c target params) (hanswer : c.answer target params s = (s, r, [])) (hr : r.refuses = true) :
    ∃ t, exec c.row s = .next t ∧ s.refuses t r := by
  have hrefused : Answer.refused (c.answer target params s) = true := by simp [hanswer, Answer.refused, hr]
  refine ⟨_, exec_refused h hrefused, ?_⟩
  rw [hanswer]
  exact State.answers_respond (s, r, [])

/-! ## Targets (R20, R21) -/

theorem copperCommand_of_copper {target : Byte} {p : Port} (body : Port → State → Answer) (s : State)
    (h : targetOf target = .copper p) : copperCommand body target s = body p s := by
  simp [copperCommand, h]

theorem recordCommand_of_copper {target : Byte} {p : Port} (one : State → Port → State × Result) (s : State)
    (h : targetOf target = .copper p) : recordCommand one target s = ((one s p).1, (one s p).2, []) := by
  simp [recordCommand, h]

/-- The group targets (R20). -/
def Target.isGroup (t : Target) : Prop := t = .allBound ∨ ∃ g, t = .group g

/-- A group target that has a member: each member in turn (R21). -/
theorem recordCommand_of_group {target : Byte} (one : State → Port → State × Result) (s : State)
    (h : (targetOf target).isGroup) (hmembers : s.members (targetOf target) ≠ []) :
    recordCommand one target s =
      ((onMembers one s (s.members (targetOf target))).1,
        commonResult (onMembers one s (s.members (targetOf target))).2,
        (onMembers one s (s.members (targetOf target))).2.map fun m => memberWord m.1 m.2) := by
  unfold recordCommand
  rcases h with h | ⟨g, h⟩ <;> simp only [h] at hmembers ⊢ <;> split <;> simp_all

theorem recordCommand_of_no_member {target : Byte} (one : State → Port → State × Result) (s : State)
    (hmembers : s.members (targetOf target) = []) : recordCommand one target s = (s, .badTarget, []) := by
  unfold recordCommand
  cases h : targetOf target <;> simp only [h] at hmembers ⊢
  case copper p => simp [State.members] at hmembers
  all_goals simp only [hmembers]

/-- The commands of a record are answered record by record (R21). -/
theorem Command.answer_of_onRecord {c : Command} {params : List Word} {one : State → Port → State × Result}
    (h : c.onRecord params = some one) (target : Byte) : c.answer target params = recordCommand one target := by
  cases c <;> simp only [Command.onRecord, Option.some.injEq, reduceCtorEq] at h <;> rw [← h] <;> rfl

theorem Command.onRecord_of_groupCommand {c : Command} (h : c ∈ groupCommands) (params : List Word) :
    ∃ one, c.onRecord params = some one := by
  simp only [groupCommands, List.mem_cons, List.not_mem_nil, or_false] at h
  rcases h with rfl | rfl | rfl | rfl | rfl | rfl | rfl | rfl | rfl | rfl | rfl | rfl | rfl <;> exact ⟨_, rfl⟩

/-- A target that the command does not accept (R200). -/
theorem Command.answer_of_not_accepts {c : Command} {target : Byte} (params : List Word) (s : State)
    (h : c.accepts (targetOf target) = false) : c.answer target params s = (s, .badTarget, []) := by
  cases c <;> cases ht : targetOf target <;>
    simp_all [Command.accepts, Command.answer, recordCommand, copperCommand, deviceCommand]

/-! ## What a refusal leaves (R41) -/

/-- A member word refuses exactly when its result does (R200, R201). -/
theorem refusedWord_memberWord (p : Port) (r : Result) : refusedWord (memberWord p r) = r.refuses := by
  have hbyte : highByte (memberWord p r) = r.byte := BitVec.extractLsb'_append_eq_left
  rw [refusedWord, hbyte]
  cases r <;> rfl

/-- `t` is `s` but for the collector. -/
def State.countsOnly (s t : State) : Prop := t = { s with faults := t.faults }

theorem State.countsOnly_refl (s : State) : s.countsOnly s := rfl

theorem State.countsOnly_recordOccurrence (s : State) (src : FaultSource) (o : Option Port) :
    s.countsOnly (s.recordOccurrence src o) := State.recordOccurrence_eq s src o

theorem State.countsOnly.trans {s t u : State} (hst : s.countsOnly t) (htu : t.countsOnly u) : s.countsOnly u := by
  unfold State.countsOnly at *
  rw [htu, hst]

/-- A refusal leaves the state as it is but for the collector, which COMMITTED may have reached (R147). -/
def State.refusesCleanly (s : State) (r : State × Result) : Prop :=
  r.2.refuses = true ∨ r.2 = .mixed → s.countsOnly r.1

@[simp] theorem State.refusesCleanly_same (s : State) (r : Result) : s.refusesCleanly (s, r) := fun _ => rfl

@[simp] theorem State.refusesCleanly_recordOccurrence (s : State) (src : FaultSource) (o : Option Port) (r : Result) :
    s.refusesCleanly (s.recordOccurrence src o, r) := fun _ => s.countsOnly_recordOccurrence src o

@[simp] theorem State.refusesCleanly_done (s t : State) : s.refusesCleanly (t, .done) :=
  fun h => by simp [Result.refuses] at h

@[simp] theorem State.refusesCleanly_accepted (s t : State) : s.refusesCleanly (t, .accepted) :=
  fun h => by simp [Result.refuses] at h

theorem State.refusesCleanly_lead (s t : State) (lead : Nat) {r : Result} (hr : r = .done ∨ r = .accepted) :
    s.refusesCleanly (t, leadResult lead r) := by
  intro h
  unfold leadResult at h
  split at h <;> rcases hr with rfl | rfl <;> simp [Result.refuses] at h

@[simp] theorem State.refusesCleanly_lead_accepted (s t : State) (lead : Nat) :
    s.refusesCleanly (t, leadResult lead .accepted) := s.refusesCleanly_lead t lead (.inr rfl)

@[simp] theorem State.refusesCleanly_lead_done (s t : State) (lead : Nat) :
    s.refusesCleanly (t, leadResult lead .done) := s.refusesCleanly_lead t lead (.inl rfl)

theorem Command.onRecord_refusesCleanly {c : Command} {params : List Word} {one : State → Port → State × Result}
    (h : c.onRecord params = some one) (s : State) (p : Port) : s.refusesCleanly (one s p) := by
  cases c <;> simp only [Command.onRecord, Option.some.injEq, reduceCtorEq] at h <;> subst h
  case unbind => unfold unbindOne; (repeat' split) <;> simp
  case lock => unfold lockOne; (repeat' split) <;> simp
  case unlock => unfold unlockOne; (repeat' split) <;> simp
  case pin => unfold pinOne; (repeat' split) <;> simp
  case start => unfold startOne; (repeat' split) <;> simp
  case bridge => unfold bridgeOne; (repeat' split) <;> simp
  case roll => unfold rollOne; (repeat' split) <;> simp
  case disarm => unfold disarmOne; split <;> simp
  case release => unfold releaseOne; (repeat' split) <;> simp
  case fallback => unfold fallbackOne; split <;> simp
  case abort => unfold abortOne; (repeat' split) <;> simp
  case recensus => unfold recensusOne; (repeat' split) <;> simp
  case auto => unfold autoOne; (repeat' split) <;> simp

/-- A common result is that of every member, else it is MIXED (R21). -/
theorem commonResult_eq_or_mixed (ms : List (Port × Result)) (h : ms ≠ []) :
    (∀ m ∈ ms, m.2 = commonResult ms) ∨ commonResult ms = .mixed := by
  rcases ms with _ | ⟨⟨p, r⟩, rest⟩
  · contradiction
  by_cases hall : (rest.all fun m => decide (m.2 = r)) = true
  · refine .inl ?_
    simp only [commonResult, if_pos hall]
    simpa using hall
  · exact .inr (by simp only [commonResult, if_neg hall])

/-- Members that all refuse leave the state as it is but for the collector. -/
theorem onMembers_countsOnly {one : State → Port → State × Result}
    (hone : ∀ (s : State) p, s.refusesCleanly (one s p)) (s : State) (ps : List Port)
    (h : ∀ m ∈ (onMembers one s ps).2, m.2.refuses = true) : s.countsOnly (onMembers one s ps).1 := by
  induction ps generalizing s with
  | nil => exact s.countsOnly_refl
  | cons p rest ih =>
    simp only [onMembers, List.mem_cons, forall_eq_or_imp] at h ⊢
    exact (hone s p (.inl h.1)).trans (ih _ h.2)

theorem recordCommand_countsOnly {one : State → Port → State × Result} (hone : ∀ (s : State) p, s.refusesCleanly (one s p))
    (target : Byte) (s : State) (h : Answer.refused (recordCommand one target s) = true) :
    s.countsOnly (recordCommand one target s).1 := by
  have hgroup : (targetOf target).isGroup → s.countsOnly (recordCommand one target s).1 := by
    intro hg
    by_cases hmembers : s.members (targetOf target) = []
    · rw [recordCommand_of_no_member one s hmembers]; rfl
    rw [recordCommand_of_group one s hg hmembers] at h ⊢
    refine onMembers_countsOnly hone s _ fun m hm => ?_
    simp only [Answer.refused, Bool.or_eq_true, Bool.and_eq_true, List.all_map, List.all_eq_true, Function.comp,
      refusedWord_memberWord] at h
    rcases h with h | ⟨-, h⟩
    · rcases commonResult_eq_or_mixed _ (List.ne_nil_of_mem hm) with hall | hmixed
      · rw [hall m hm]; exact h
      · rw [hmixed] at h; simp [Result.refuses] at h
    · exact h m hm
  cases ht : targetOf target with
  | copper p =>
    rw [recordCommand_of_copper one s ht] at h ⊢
    exact hone s p (by simpa [Answer.refused] using h)
  | group g => exact hgroup (.inr ⟨g, ht⟩)
  | allBound => exact hgroup (.inl ht)
  | noRecord => simp [recordCommand, ht, State.countsOnly]
  | other => simp [recordCommand, ht, State.countsOnly]

/-- A copper command that is refused leaves the state as it is. -/
theorem copperCommand_countsOnly {body : Port → State → Answer} (target : Byte) (s : State)
    (hbody : ∀ p, Answer.refused (body p s) = true → s.countsOnly (body p s).1)
    (h : Answer.refused (copperCommand body target s) = true) : s.countsOnly (copperCommand body target s).1 := by
  cases ht : targetOf target with
  | copper p =>
    rw [copperCommand_of_copper body s ht] at h ⊢
    exact hbody p h
  | _ => simp [copperCommand, ht, State.countsOnly]

theorem deviceCommand_countsOnly {body : State → Answer} (target : Byte) (s : State)
    (hbody : Answer.refused (body s) = true → s.countsOnly (body s).1)
    (h : Answer.refused (deviceCommand body target s) = true) : s.countsOnly (deviceCommand body target s).1 := by
  cases ht : targetOf target with
  | noRecord =>
    rw [deviceCommand_of_noRecord body s ht] at h ⊢
    exact hbody h
  | _ => simp [deviceCommand, ht, State.countsOnly]

theorem Answer.refused_eq_refuses {r : Answer} (h : r.2.1 ≠ .mixed) : r.refused = r.2.1.refuses := by
  simp [Answer.refused, h]

/-- A refused command leaves the state as it is but for the collector (R41). -/
theorem Command.answer_countsOnly (c : Command) (target : Byte) (params : List Word) (s : State)
    (h : Answer.refused (c.answer target params s) = true) : s.countsOnly (c.answer target params s).1 := by
  cases hone : c.onRecord params with
  | some one =>
    rw [Command.answer_of_onRecord hone] at h ⊢
    exact recordCommand_countsOnly (fun s p => Command.onRecord_refusesCleanly hone s p) target s h
  | none =>
    cases c <;> simp only [Command.onRecord, reduceCtorEq] at hone <;> unfold Command.answer at h ⊢
    case bind =>
      refine copperCommand_countsOnly target s (fun p => ?_) h
      unfold bindRecord
      (repeat' split) <;> simp [Answer.refused, Result.refuses, State.countsOnly]
    case groups =>
      refine copperCommand_countsOnly target s (fun p => ?_) h
      unfold groupsRecord
      (repeat' split) <;> simp [Answer.refused, Result.refuses, State.countsOnly]
    case queryTrunk => exact copperCommand_countsOnly target s (fun p => by simp [Answer.refused, Result.refuses]) h
    case queryIndex =>
      refine copperCommand_countsOnly target s (fun p _ => ?_) h
      unfold Machine.queryIndex
      split <;> rfl
    case eraseImage =>
      refine deviceCommand_countsOnly target s ?_ h
      unfold Machine.eraseImage
      split <;> simp [Answer.refused, Result.refuses, State.countsOnly]
    case setAction =>
      refine deviceCommand_countsOnly target s ?_ h
      unfold Machine.setAction
      dsimp only
      (repeat' split) <;> simp [Answer.refused, Result.refuses, State.countsOnly]
    case setTiming =>
      refine deviceCommand_countsOnly target s ?_ h
      unfold Machine.setTiming
      dsimp only
      split <;> simp [Answer.refused, Result.refuses]
    case status | readStore => exact deviceCommand_countsOnly target s (fun _ => rfl) h
    case hold | clearHold | queryFaults | clearFaults =>
      exact deviceCommand_countsOnly target s (fun h => by simp [Answer.refused, Result.refuses] at h) h
    case close => simp [Answer.refused, Result.refuses] at h

/-! ## What every command tests first (O19) -/

/-- A locked record refuses (R27). -/
theorem Command.answer_of_locked {c : Command} {target : Byte} {p : Port} (params : List Word) (s : State)
    (hc : c ∈ lockedCommands) (ht : targetOf target = .copper p) (hlock : (s.trunk p).lock ≠ .unlocked) :
    c.answer target params s = (s, .locked, []) := by
  simp only [lockedCommands, List.mem_cons, List.not_mem_nil, or_false] at hc
  rcases hc with rfl | rfl | rfl | rfl | rfl | rfl | rfl | rfl | rfl <;>
    simp [Command.answer, recordCommand, copperCommand, ht, startOne, bridgeOne, rollOne, releaseOne, abortOne,
      recensusOne, autoOne, groupsRecord, unbindOne, hlock]

/-- An unlocked record refuses in hold (R117, R184). -/
theorem Command.answer_of_held {c : Command} {target : Byte} {p : Port} (params : List Word) (s : State)
    (hc : c ∈ heldCommands) (ht : targetOf target = .copper p) (hlock : (s.trunk p).lock = .unlocked)
    (hhold : s.inHold = true) : c.answer target params s = (s, .held, []) := by
  simp only [heldCommands, List.mem_cons, List.not_mem_nil, or_false] at hc
  rcases hc with rfl | rfl | rfl | rfl | rfl <;>
    simp [Command.answer, recordCommand, ht, startOne, bridgeOne, rollOne, releaseOne, recensusOne, hlock, hhold]

/-- Settles O19. -/
theorem refusalsAnswerFirst : Obligations.RefusalsAnswerFirst := by
  refine ⟨fun s c target params h => ⟨fun haccepts => ?_, fun hc hmembers => ?_⟩,
    fun s c target params p h ht => ⟨fun hc hlock => ?_, fun hc hlock hhold => ?_⟩,
    fun s c target params h hrefused hbusy => ⟨_, exec_refused h hrefused, ?_⟩⟩
  · exact refuses_of_answer h (Command.answer_of_not_accepts params s haccepts) rfl
  · obtain ⟨one, hone⟩ := Command.onRecord_of_groupCommand hc params
    refine refuses_of_answer h ?_ rfl
    rw [Command.answer_of_onRecord hone, recordCommand_of_no_member one s hmembers]
  · exact refuses_of_answer h (Command.answer_of_locked params s hc ht hlock) rfl
  · exact refuses_of_answer h (Command.answer_of_held params s hc ht hlock hhold) rfl
  · have hframe := Command.answer_countsOnly c target params s hrefused
    unfold State.countsOnly at hframe
    have hbusy' : (State.respond (c.answer target params s)).arbiter.inProgress.isSome = true := by
      rw [State.respond_eq, hframe]
      exact Option.isSome_iff_ne_none.mpr hbusy
    rw [State.resume_busy hbusy', State.respond_eq]
    refine ⟨⟨rfl, ?_⟩, ?_⟩
    · dsimp only
      rw [hframe]
    · obtain ⟨faults, hfaults⟩ : ∃ faults, (c.answer target params s).1 = { s with faults := faults } :=
        ⟨_, hframe⟩
      rw [hfaults]

end Sys2Proof.Machine
end

section
/-! SUPPORT. Group commands: each member in turn (O20), and LOCK and UNLOCK of a record or a group (O23). -/

namespace Sys2Proof.Machine

/-! ## The members of a group target (R20) -/

theorem State.mem_members {s : State} {t : Target} (ht : t.isGroup) (p : Port) :
    p ∈ s.members t ↔ (s.trunk p).binding ≠ none ∧ ∀ g, t = .group g → g ∈ (s.trunk p).groups := by
  have hall : p ∈ allPorts := List.mem_finRange p
  rcases ht with rfl | ⟨g, rfl⟩ <;>
    simp [State.members, hall, State.isBound, Option.isSome_iff_ne_none]

theorem State.members_pairwise {s : State} {t : Target} (ht : t.isGroup) : (s.members t).Pairwise (· < ·) := by
  have hall : allPorts.Pairwise (· < ·) := List.pairwise_lt_finRange 64
  rcases ht with rfl | ⟨g, rfl⟩ <;> simp only [State.members] <;> exact hall.filter _

/-! ## Each member in turn (R21) -/

theorem afterMembers_cons (one : State → Port → State × Result) (s : State) (p : Port) (ps : List Port) :
    afterMembers one s (p :: ps) = afterMembers one (one s p).1 ps := rfl

theorem onMembers_state (one : State → Port → State × Result) (s : State) (ps : List Port) :
    (onMembers one s ps).1 = afterMembers one s ps := by
  induction ps generalizing s with
  | nil => rfl
  | cons p rest ih => simp only [onMembers, afterMembers_cons, ih]

theorem onMembers_length (one : State → Port → State × Result) (s : State) (ps : List Port) :
    (onMembers one s ps).2.length = ps.length := by
  induction ps generalizing s with
  | nil => rfl
  | cons p rest ih => simp only [onMembers, List.length_cons, ih]

/-- The result of a member is that of the state that the members before it left. -/
theorem onMembers_getElem? (one : State → Port → State × Result) (s : State) (ps : List Port) (i : Nat) :
    (onMembers one s ps).2[i]? = ps[i]?.map fun p => (p, (one (afterMembers one s (ps.take i)) p).2) := by
  induction ps generalizing s i with
  | nil => simp [onMembers]
  | cons p rest ih =>
    cases i with
    | zero => simp [onMembers, afterMembers]
    | succ i => simp [onMembers, ih, afterMembers_cons]

/-- The header's result: that of all members, else MIXED, with two members that differ (R21). -/
theorem commonResult_cases {ms : List (Port × Result)} (h : ms ≠ []) :
    (∀ m ∈ ms, m.2 = commonResult ms) ∨
      (commonResult ms = .mixed ∧ ∃ m ∈ ms, ∃ m' ∈ ms, m.2 ≠ m'.2) := by
  rcases ms with _ | ⟨⟨p, r⟩, rest⟩
  · contradiction
  by_cases hall : (rest.all fun m => decide (m.2 = r)) = true
  · refine .inl ?_
    simp only [commonResult, if_pos hall]
    simpa using hall
  · refine .inr ⟨by simp only [commonResult, if_neg hall], ?_⟩
    obtain ⟨m, hm, hne⟩ := List.all_eq_false.mp (Bool.eq_false_iff.mpr hall)
    exact ⟨m, List.mem_cons_of_mem _ hm, (p, r), List.mem_cons_self, fun heq => hne (decide_eq_true heq)⟩

/-- The header's result of members that agree, and of members that do not (R21). -/
theorem commonResult_of_agree {ms : List (Port × Result)} {r : Result} (hne : ms ≠ []) (h : ∀ m ∈ ms, m.2 = r) :
    commonResult ms = r := by
  obtain ⟨m, hm⟩ := List.exists_mem_of_ne_nil ms hne
  rcases commonResult_cases hne with hall | ⟨-, m', hm', m'', hm'', hdiffer⟩
  · rw [← hall m hm, h m hm]
  · exact absurd ((h m' hm').trans (h m'' hm'').symm) hdiffer

theorem commonResult_of_differ {ms : List (Port × Result)} {m m' : Port × Result} (hm : m ∈ ms) (hm' : m' ∈ ms)
    (h : m.2 ≠ m'.2) : commonResult ms = .mixed := by
  rcases commonResult_cases (List.ne_nil_of_mem hm) with hall | ⟨hmixed, -⟩
  · exact absurd ((hall m hm).trans (hall m' hm').symm) h
  · exact hmixed

/-- A command of the trunk table is served at its row, member by member (R21). -/
theorem State.answers_record {s : State} {c : Command} {target : Byte} {params : List Word}
    {one : State → Port → State × Result} (h : s.completes c target params) (hone : c.onRecord params = some one) :
    ∃ t, exec c.row s = .next t ∧
      (recordCommand one target (s.foundBy c target params)).1.answers t
        (recordCommand one target (s.foundBy c target params)).2.1
        (recordCommand one target (s.foundBy c target params)).2.2 := by
  have hclose : c ≠ .close := by rintro rfl; simp [Command.onRecord] at hone
  have hread : c ≠ .readStore := by rintro rfl; simp [Command.onRecord] at hone
  refine ⟨_, exec_commandRow s hclose hread, ?_⟩
  rw [← Command.answer_of_onRecord hone]
  exact State.answers_serve h

/-- Settles O20. -/
theorem groupCommandActsOnEachMember : Obligations.GroupCommandActsOnEachMember := by
  intro s c target params one h hone hgroup u ps before hps
  obtain ⟨t, hexec, hanswers⟩ := State.answers_record h hone
  rw [recordCommand_of_group one _ hgroup hps] at hanswers
  have hget := onMembers_getElem? one u ps
  have hlength := onMembers_length one u ps
  refine ⟨State.members_pairwise hgroup, State.mem_members hgroup, t,
    commonResult (onMembers one u ps).2, (onMembers one u ps).2.map fun m => memberWord m.1 m.2, hexec, ?_, ?_,
    fun i p hp => ?_, ?_⟩
  · have hbefore : before ps.length = (onMembers one u ps).1 := by
      rw [onMembers_state]
      exact congrArg (afterMembers one u) (List.take_length)
    rw [hbefore]
    exact hanswers
  · rw [List.length_map]
    exact hlength
  · rw [List.getElem?_map]
    exact congrArg (Option.map _) ((hget i).trans (by rw [hp]))
  · have hmember : ∀ i p, ps[i]? = some p → (p, (one (before i) p).2) ∈ (onMembers one u ps).2 := fun i p hp =>
      List.mem_of_getElem? ((hget i).trans (by rw [hp]; rfl))
    have hfind : ∀ m ∈ (onMembers one u ps).2, ∃ i p, ps[i]? = some p ∧ (one (before i) p).2 = m.2 := by
      intro m hm
      obtain ⟨i, hi⟩ := List.mem_iff_getElem?.mp hm
      rw [hget, Option.map_eq_some_iff] at hi
      obtain ⟨p, hp, rfl⟩ := hi
      exact ⟨i, p, hp, rfl⟩
    have hne : (onMembers one u ps).2 ≠ [] := by
      rw [← List.length_pos_iff, hlength, List.length_pos_iff]
      exact hps
    rcases commonResult_cases hne with hall | ⟨hmixed, m, hm, m', hm', hdiffer⟩
    · exact .inl fun i p hp => hall _ (hmember i p hp)
    · refine .inr ⟨hmixed, fun r' => ?_⟩
      obtain ⟨i, p, hp, hr⟩ := hfind m hm
      obtain ⟨j, q, hq, hr'⟩ := hfind m' hm'
      by_cases he : m.2 = r'
      · exact ⟨j, q, hq, fun e => hdiffer (he.trans (e.symm.trans hr'))⟩
      · exact ⟨i, p, hp, fun e => he (hr.symm.trans e)⟩

/-! ## LOCK and UNLOCK (R29) -/

/-- A command that changes each record by itself: its record alone, by a change of its own, with a result read off the
record. -/
def ActsAlone (one : State → Port → State × Result) (change : TrunkRecord → TrunkRecord)
    (result : TrunkRecord → Result) : Prop :=
  ∀ (s : State) p, (∀ q, (one s p).1.trunk q = if q = p then change (s.trunk p) else s.trunk q) ∧
    (one s p).1 = { s with trunks := (one s p).1.trunks } ∧ (one s p).2 = result (s.trunk p)

/-- The members of a group, each changed by itself. -/
theorem ActsAlone.onMembers {one : State → Port → State × Result} {change : TrunkRecord → TrunkRecord}
    {result : TrunkRecord → Result} (hone : ActsAlone one change result) (s : State) {ps : List Port}
    (hnodup : ps.Nodup) :
    (∀ q, (onMembers one s ps).1.trunk q = if q ∈ ps then change (s.trunk q) else s.trunk q) ∧
      (Machine.onMembers one s ps).1 = { s with trunks := (Machine.onMembers one s ps).1.trunks } ∧
      (Machine.onMembers one s ps).2 = ps.map fun p => (p, result (s.trunk p)) := by
  induction ps generalizing s with
  | nil => exact ⟨fun q => by simp [Machine.onMembers], rfl, rfl⟩
  | cons p rest ih =>
    obtain ⟨hnot, hrest⟩ := List.nodup_cons.mp hnodup
    obtain ⟨htrunk, hframe, hresult⟩ := hone s p
    obtain ⟨itrunk, iframe, iresult⟩ := ih (one s p).1 hrest
    simp only [Machine.onMembers]
    refine ⟨fun q => ?_, ?_, ?_⟩
    · rw [itrunk, htrunk]
      by_cases hq : q = p
      · subst hq; simp [hnot]
      · simp [hq]
    · rw [iframe, hframe]
    · rw [iresult, hresult, List.map_cons]
      congr 1
      refine List.map_congr_left fun q hq => ?_
      rw [htrunk, if_neg (by rintro rfl; exact hnot hq)]

theorem lockOne_actsAlone :
    ActsAlone lockOne (fun r => if r.phase = .free ∨ r.lock = .pinned then r else { r with lock := .locked })
      (fun r => if r.phase = .free then .state else .done) := by
  intro s p
  refine ⟨fun q => ?_, ?_, ?_⟩
  · by_cases hfree : (s.trunk p).phase = .free <;> cases hlock : (s.trunk p).lock <;>
      simp_all [lockOne, State.phase, State.setLock, State.trunk_setTrunk]
  · unfold lockOne
    (repeat' split) <;> rfl
  · by_cases hfree : (s.trunk p).phase = .free <;> cases hlock : (s.trunk p).lock <;>
      simp [lockOne, State.phase, hfree, hlock]

theorem unlockOne_actsAlone :
    ActsAlone unlockOne (fun r => if r.phase = .free ∨ r.lock = .pinned then r else { r with lock := .unlocked })
      (fun r => if r.phase = .free then .state else if r.lock = .pinned then .locked else .done) := by
  intro s p
  refine ⟨fun q => ?_, ?_, ?_⟩
  · by_cases hfree : (s.trunk p).phase = .free <;> cases hlock : (s.trunk p).lock <;>
      simp_all [unlockOne, State.phase, State.setLock, State.trunk_setTrunk]
  · unfold unlockOne
    (repeat' split) <;> rfl
  · by_cases hfree : (s.trunk p).phase = .free <;> cases hlock : (s.trunk p).lock <;>
      simp [unlockOne, State.phase, hfree, hlock]

/-- What a command answers from a state that differs in its trunk table alone. -/
theorem State.answers.of_trunks {u v t : State} {r : Result} {words : List Word}
    (hv : v = { u with trunks := v.trunks }) (h : v.answers t r words) :
    u.answered t r words ∧ (∀ q, t.trunk q = v.trunk q) ∧
      t = { u with trunks := t.trunks, sweeps := t.sweeps, port := t.port, channel := t.channel, arbiter := t.arbiter } ∧
      t.sweepQueue = u.sweepQueue := by
  obtain ⟨⟨hchannel, hport⟩, hframe, hqueue⟩ := h
  refine ⟨⟨hchannel, by rw [hport, hv]⟩, fun q => (congrArg (State.trunk · q) hframe :), ?_, by rw [hqueue, hv]; rfl⟩
  have htrunks : t.trunks = v.trunks := by rw [hframe]
  rw [hv, ← htrunks] at hframe
  exact hframe

/-- Settles O23. -/
theorem lockAndUnlockFollowTheTable : Obligations.LockAndUnlockFollowTheTable := by
  intro s target params locked unlocked lockResult unlockResult outcome
  have row : ∀ {c : Command} {one : State → Port → State × Result} {change : TrunkRecord → TrunkRecord}
      {result : TrunkRecord → Result}, s.completes c target params → c.onRecord params = some one →
      ActsAlone one change result → (s.foundBy c target params).members (targetOf target) ≠ [] →
      ∃ t, exec c.row s = .next t ∧ outcome (s.foundBy c target params) t change result := by
    intro c one change result h hone hacts hmembers
    obtain ⟨t, hexec, hanswers⟩ := State.answers_record h hone
    refine ⟨t, hexec, ?_⟩
    generalize s.foundBy c target params = u at hanswers hmembers ⊢
    by_cases hgroup : (targetOf target).isGroup
    · rw [recordCommand_of_group one u hgroup hmembers] at hanswers
      obtain ⟨htrunk, hframe, hresult⟩ := hacts.onMembers u ((State.members_pairwise hgroup).imp Fin.ne_of_lt)
      obtain ⟨hanswered, htrunk', hframe', hqueue⟩ := State.answers.of_trunks hframe hanswers
      simp only [hresult, List.map_map] at hanswered
      refine ⟨fun q => by rw [htrunk', htrunk], hframe', hqueue, fun p hp => ?_, fun _ => ⟨_, hanswered,
        fun r' hall => commonResult_of_agree (by simpa using hmembers) ?_, ?_⟩⟩
      · rcases hgroup with hg | ⟨g, hg⟩ <;> rw [hp] at hg <;> contradiction
      · simpa using hall
      · rintro ⟨q, hq, q', hq', hdiffer⟩
        exact commonResult_of_differ (List.mem_map_of_mem hq) (List.mem_map_of_mem hq') hdiffer
    · cases ht : targetOf target with
      | copper p =>
        rw [recordCommand_of_copper one u ht] at hanswers
        obtain ⟨htrunk, hframe, hresult⟩ := hacts u p
        obtain ⟨hanswered, htrunk', hframe', hqueue⟩ := State.answers.of_trunks hframe hanswers
        refine ⟨fun q => ?_, hframe', hqueue, fun q hq => ?_, fun hg => absurd hg hgroup⟩
        · rw [htrunk', htrunk, ht]
          by_cases hq : q = p
          · subst hq; simp [State.members]
          · simp [State.members, hq]
        · obtain rfl : p = q := by simpa [ht] using hq
          rw [← hresult]
          exact hanswered
      | group g => exact absurd (.inr ⟨g, ht⟩) hgroup
      | allBound => exact absurd (.inl ht) hgroup
      | noRecord => simp [ht, State.members] at hmembers
      | other => simp [ht, State.members] at hmembers
  exact ⟨fun h => row h rfl lockOne_actsAlone, fun h => row h rfl unlockOne_actsAlone⟩

end Sys2Proof.Machine
end

section
/-! SUPPORT. The commands that move one record: START, BRIDGE and RECENSUS (O25), the requests (O26), DISARM and
FALLBACK (O27), ABORT (O28). -/

namespace Sys2Proof.Machine

variable {u v t : State} {p : Port} {r : TrunkRecord} {armed : List Port} {queue : List (SweepKind × Port × Nat)}

/-! ## A record moved, and what is left of it by the end of its event -/

theorem State.movedAlone_changeTrunk (u : State) (p : Port) (r : TrunkRecord) :
    u.movedAlone (u.changeTrunk p r) p r u.armedList u.sweepQueue :=
  ⟨⟨fun q => u.trunk_changeTrunk p q r, rfl, rfl, rfl, rfl⟩, rfl, rfl⟩

theorem State.movedAlone.leaveArmedList (h : u.movedAlone v p r armed queue) (q : Port) :
    u.movedAlone (v.leaveArmedList q) p r (armed.erase q) queue := by
  obtain ⟨⟨htrunk, harmed, hqueue, hlink, hframe⟩, hport, hchannel⟩ := h
  refine ⟨⟨htrunk, congrArg (List.erase · q) harmed, hqueue, hlink, ?_⟩, hport, hchannel⟩
  unfold State.leaveArmedList
  dsimp only
  conv => lhs; rw [hframe]

theorem State.movedAlone.queueSweep (h : u.movedAlone v p r armed queue) (kind : SweepKind) (q : Port) :
    u.movedAlone (v.queueSweep kind q) p r armed (joinQueue queue kind q) := by
  obtain ⟨⟨htrunk, harmed, hqueue, hlink, hframe⟩, hport, hchannel⟩ := h
  refine ⟨⟨htrunk, harmed, by rw [State.queueSweep_sweepQueue, hqueue], hlink, ?_⟩, hport, hchannel⟩
  unfold State.queueSweep
  dsimp only
  conv => lhs; rw [hframe]

theorem State.movedAlone.replaceRoll (h : u.movedAlone v p r armed queue) (q : Port) :
    u.movedAlone (v.replaceRoll q) p r armed
      (queue.map (fun e => if e.2.1 = q ∧ e.1 = .roll then (.unroll, q, 0) else e)) := by
  obtain ⟨⟨htrunk, harmed, hqueue, hlink, hframe⟩, hport, hchannel⟩ := h
  refine ⟨⟨htrunk, harmed, by rw [State.replaceRoll_sweepQueue, hqueue], hlink, ?_⟩, hport, hchannel⟩
  unfold State.replaceRoll
  dsimp only
  conv => lhs; rw [hframe]

/-- The end of an event that moved a record leaves it moved. -/
theorem State.movedAlone.resume (h : u.movedAlone v p r armed queue) : u.movedAlone v.resume p r armed queue := by
  obtain ⟨⟨htrunk, harmed, hqueue, hlink, hframe⟩, hport, hchannel⟩ := h
  refine ⟨⟨fun q => by rw [State.resume_trunk, htrunk], by rw [State.resume_armedList, harmed],
    by rw [State.resume_sweepQueue, hqueue], by rw [State.resume_link, hlink], ?_⟩,
    by rw [State.resume_port, hport], by rw [State.resume_channel, hchannel]⟩
  rw [State.resume_eq]
  generalize v.resume.sweeps = sweeps
  generalize v.resume.arbiter = arbiter
  conv => lhs; rw [hframe]

/-- A command that moved a record is answered from it. -/
theorem State.movedAlone.answers {result : Result} {words : List Word} (h : u.movedAlone v p r armed queue)
    (ht : v.answers t result words) : u.answered t result words ∧ u.moved t p r armed queue := by
  obtain ⟨⟨htrunk, harmed, hqueue, hlink, hframe⟩, hport, -⟩ := h
  obtain ⟨⟨htchannel, htport⟩, htframe, htqueue⟩ := ht
  refine ⟨⟨htchannel, by rw [htport, hport]⟩, fun q => ?_, ?_, by rw [htqueue, hqueue], ?_, ?_⟩
  · rw [← htrunk]
    exact (congrArg (State.trunk · q) htframe :)
  · rw [htframe]; exact harmed
  · rw [htframe]; exact hlink
  · obtain ⟨trunks, armed', link, sweeps, port, channel, arbiter, hv⟩ : ∃ trunks armed' link sweeps port channel arbiter,
        v = { u with
          trunks := trunks, armedList := armed', link := link, sweeps := sweeps, port := port, channel := channel,
          arbiter := arbiter } := ⟨_, _, _, _, _, _, _, hframe⟩
    rw [htframe, hv]

theorem State.movedAlone_disarmRecord (u : State) (p : Port) :
    u.movedAlone (u.disarmRecord p) p { u.trunk p with phase := .bridged, epoch := none, rollRequest := none }
      (u.armedList.erase p) u.sweepQueue :=
  (u.movedAlone_changeTrunk p _).leaveArmedList p

theorem State.movedAlone_fallFromArmed (u : State) (p : Port) :
    u.movedAlone (u.fallFromArmed p) p
      { u.trunk p with phase := .bridged, epoch := none, rollRequest := none, autoLead := none }
      (u.armedList.erase p) u.sweepQueue :=
  (u.movedAlone_changeTrunk p _).leaveArmedList p

theorem State.movedAlone_returnFromArmed (u : State) (p : Port) :
    u.movedAlone (u.returnFromArmed p) p { u.trunk p with phase := .bridged, epoch := none }
      (u.armedList.erase p) u.sweepQueue :=
  (u.movedAlone_changeTrunk p _).leaveArmedList p

theorem State.movedAlone_bridgeRecord (u : State) (p : Port) :
    u.movedAlone (u.bridgeRecord p) p { u.trunk p with phase := .bridging } u.armedList
      (joinQueue u.sweepQueue .bridge p) :=
  (u.movedAlone_changeTrunk p _).queueSweep .bridge p

/-- The entry to UNROLLING (R146, R151). -/
theorem State.movedAlone_enterUnrolling (u : State) (p : Port) (undo : UndoTarget) (auto : Option Nat) :
    u.movedAlone (u.enterUnrolling p undo auto) p
      { u.trunk p with
        phase := .unrolling, undo := some undo, autoLead := auto, releaseRequest := false, soak := none }
      u.armedList (u.unrollQueue p) := by
  unfold State.enterUnrolling State.unrollQueue
  dsimp only
  split
  · exact (u.movedAlone_changeTrunk p _).replaceRoll p
  · exact (u.movedAlone_changeTrunk p _).queueSweep .unroll p

theorem State.movedAlone_abortToUnbridging (u : State) (p : Port) :
    u.movedAlone (u.abortToUnbridging p) p
      { u.trunk p with phase := .unbridging, undo := some .bound, epoch := none, rollRequest := none }
      (u.armedList.erase p) (joinQueue (u.queueWithout p) .unbridge p) := by
  have hmoved : u.movedAlone ((u.removeSweep p).changeTrunk p
      { u.trunk p with phase := .unbridging, undo := some .bound, epoch := none, rollRequest := none }) p
      { u.trunk p with phase := .unbridging, undo := some .bound, epoch := none, rollRequest := none } u.armedList
      (u.queueWithout p) :=
    ⟨⟨fun q => State.trunk_changeTrunk _ p q _, rfl, u.removeSweep_sweepQueue p, rfl, rfl⟩, rfl, rfl⟩
  exact (hmoved.leaveArmedList p).queueSweep .unbridge p

/-! ## A record started (R118) -/

theorem State.joinAnnounced_of_bound {b : Binding} (hb : (u.trunk p).binding = some b) :
    u.joinAnnounced p = (u.setView p (some (newView b.circuit))).reportChange := by
  simp only [State.joinAnnounced, hb]

theorem State.startRecord_port_channel (u : State) (p : Port) :
    (u.startRecord p).port = u.port ∧ (u.startRecord p).channel = u.channel := by
  unfold State.startRecord State.joinAnnounced
  split <;> exact ⟨rfl, rfl⟩

theorem State.started_startRecord {b : Binding} (hb : (u.trunk p).binding = some b) :
    u.started (u.startRecord p) p := by
  have hbinding : (((u.setTrunk p { u.trunk p with phase := .census }).queueSweep .census p).trunk p).binding =
      some b := by
    rw [State.trunk_congr (State.queueSweep_trunks ..), State.trunk_setTrunk_self]
    exact hb
  rw [State.startRecord, State.joinAnnounced_of_bound hbinding]
  refine ⟨fun q => u.trunk_setTrunk p q _,
    (u.setTrunk p { u.trunk p with phase := .census }).queueSweep_sweepQueue .census p, fun q => ?_, rfl, rfl⟩
  rw [hb]
  exact State.view_setView _ p q _

/-- A command that started a record is answered from it. -/
theorem State.started.answers {result : Result} {words : List Word} (h : u.started v p) (hport : v.port = u.port)
    (ht : v.answers t result words) : u.answered t result words ∧ u.started t p := by
  obtain ⟨htrunk, hqueue, hview, hlink, hframe⟩ := h
  obtain ⟨⟨htchannel, htport⟩, htframe, htqueue⟩ := ht
  have htlink : t.link = v.link := by rw [htframe]
  refine ⟨⟨htchannel, by rw [htport, hport]⟩, fun q => ?_, by rw [htqueue, hqueue], fun q => ?_, ?_, ?_⟩
  · rw [← htrunk]
    exact (congrArg (State.trunk · q) htframe :)
  · rw [← hview]
    exact (congrArg (State.view · q) htframe :)
  · rw [htlink]; exact hlink
  · obtain ⟨trunks, link, sweeps, port, channel, arbiter, hv⟩ : ∃ trunks link sweeps port channel arbiter,
        v = { u with
          trunks := trunks, link := link, sweeps := sweeps, port := port, channel := channel,
          arbiter := arbiter } := ⟨_, _, _, _, _, _, hframe⟩
    rw [htframe, hv]

/-! ## A command of one record (R20) -/

theorem State.answers_copperRecord {s : State} {c : Command} {target : Byte} {params : List Word}
    {one : State → Port → State × Result} (h : s.completes c target params) (hone : c.onRecord params = some one)
    (hp : targetOf target = .copper p) :
    ∃ t, exec c.row s = .next t ∧
      (one (s.foundBy c target params) p).1.answers t (one (s.foundBy c target params) p).2 [] := by
  obtain ⟨t, hexec, hanswers⟩ := State.answers_record h hone
  rw [recordCommand_of_copper one _ hp] at hanswers
  exact ⟨t, hexec, hanswers⟩

/-- A record that is replaced, and nothing else. -/
theorem State.takes_of_answers {result : Result} (h : (u.setTrunk p r).answers t result []) :
    u.takes t result p r := by
  obtain ⟨hanswered, htrunk, hframe, hqueue⟩ := State.answers.of_trunks (u := u) rfl h
  refine ⟨hanswered, ?_, hqueue, fun q => by rw [htrunk, State.trunk_setTrunk]⟩
  exact hframe

/-! ## START, BRIDGE and RECENSUS (O25) -/

theorem TrunkRecord.preparedBound_iff_exists (r : TrunkRecord) :
    r.preparedBound = true ↔ r.phase = .bound ∧ ∃ b, r.binding = some b ∧ b.prepared = true := by
  cases hb : r.binding <;> simp [TrunkRecord.preparedBound, hb]

theorem startOne_of_free_hold (hlock : (u.trunk p).lock = .unlocked) (hhold : u.inHold = false) :
    startOne u p =
      if (u.trunk p).preparedBound = true then
        if 8 ≤ u.announcedCount then (u, .limit) else (u.startRecord p, .accepted)
      else (u, .state) := by
  cases hprepared : (u.trunk p).preparedBound <;> simp [startOne, hlock, hhold, hprepared]

theorem bridgeOne_of_free_hold (hlock : (u.trunk p).lock = .unlocked) (hhold : u.inHold = false) :
    bridgeOne u p =
      if (u.trunk p).phase = .tracked ∧ u.hasSweep p = false then (u.bridgeRecord p, .accepted) else (u, .state) := by
  cases hsweep : u.hasSweep p <;> cases hphase : (u.trunk p).phase <;>
    simp [bridgeOne, State.phase, hlock, hhold, hsweep, hphase]

theorem recensusOne_of_free_hold (hlock : (u.trunk p).lock = .unlocked) (hhold : u.inHold = false) :
    recensusOne u p =
      if ((u.trunk p).phase = .tracked ∨ (u.trunk p).phase = .bridged) ∧ u.hasSweep p = false then
        ((u.clearIndex p).queueSweep .census p, .accepted)
      else (u, .state) := by
  cases hsweep : u.hasSweep p <;> cases hphase : (u.trunk p).phase <;>
    simp [recensusOne, State.phase, hlock, hhold, hsweep, hphase]

/-- The links of a record freed and its index-lost flag cleared (R70, R71). -/
theorem State.trunk_clearIndex (u : State) (p q : Port) :
    (u.clearIndex p).trunk q = if q = p then { u.trunk p with indexLost := false } else u.trunk q :=
  State.trunk_setTrunk (u.freeLinks p) p q _

/-- A command that changes the records and what else its frame names is answered from the state it leaves. -/
theorem State.answers.answered {result : Result} {words : List Word} (h : v.answers t result words)
    (hport : v.port = u.port) : u.answered t result words :=
  ⟨h.1.1, by rw [h.1.2, hport]⟩

theorem State.answers.trunk_eq {result : Result} {words : List Word} (h : v.answers t result words) (q : Port) :
    t.trunk q = v.trunk q := (congrArg (State.trunk · q) h.2.1 :)

/-- Settles O25. -/
theorem startBridgeAndRecensusQueueTheirSweeps : Obligations.StartBridgeAndRecensusQueueTheirSweeps := by
  refine ⟨fun s target params p hp => ⟨fun h => ?_, fun h => ?_⟩, fun s target params p h hp => ?_⟩
  · intro u r hlock hhold
    obtain ⟨t, hexec, hanswers⟩ := State.answers_copperRecord h rfl hp
    change (startOne u p).1.answers t (startOne u p).2 [] at hanswers
    rw [startOne_of_free_hold hlock hhold] at hanswers
    refine ⟨t, hexec, ?_⟩
    intro prepared
    have hprepared : (u.trunk p).preparedBound = true ↔ prepared := TrunkRecord.preparedBound_iff_exists _
    refine ⟨fun hn => ?_, fun hprep hfull => ?_, fun hprep hroom => ?_⟩
    · rw [if_neg ((not_congr hprepared).mpr hn)] at hanswers
      exact hanswers
    · rw [if_pos (hprepared.mpr hprep), if_pos hfull] at hanswers
      exact hanswers
    · rw [if_pos (hprepared.mpr hprep), if_neg (by omega)] at hanswers
      obtain ⟨b, hb, -⟩ := hprep.2
      exact (State.started_startRecord hb).answers (u.startRecord_port_channel p).1 hanswers
  · intro u r hlock hhold
    obtain ⟨t, hexec, hanswers⟩ := State.answers_copperRecord h rfl hp
    change (bridgeOne u p).1.answers t (bridgeOne u p).2 [] at hanswers
    rw [bridgeOne_of_free_hold hlock hhold] at hanswers
    refine ⟨t, hexec, fun hn => ?_, fun hphase hsweep => ?_⟩
    · rw [if_neg (by rintro ⟨hphase, hsweep⟩; simp_all [r])] at hanswers
      exact hanswers
    · rw [if_pos ⟨hphase, hsweep⟩] at hanswers
      exact (u.movedAlone_bridgeRecord p).answers hanswers
  · intro u r hlock hhold
    obtain ⟨t, hexec, hanswers⟩ := State.answers_copperRecord h rfl hp
    change (recensusOne u p).1.answers t (recensusOne u p).2 [] at hanswers
    rw [recensusOne_of_free_hold hlock hhold] at hanswers
    refine ⟨t, hexec, fun hn => ?_, fun hphase hsweep => ?_⟩
    · rw [if_neg (by rintro ⟨hphase, hsweep⟩; simp_all [r])] at hanswers
      exact hanswers
    · rw [if_pos ⟨hphase, hsweep⟩] at hanswers
      have hframe := hanswers.2.1
      refine ⟨hanswers.answered (by simp), fun q => ?_, ?_, ?_, ?_⟩
      · rw [hanswers.trunk_eq, State.trunk_congr (State.queueSweep_trunks ..), State.trunk_clearIndex]
      · rw [hframe]; rfl
      · rw [hanswers.2.2, State.queueSweep_sweepQueue]; rfl
      · rw [hframe]; rfl

/-! ## ROLL, RELEASE and AUTO (O26) -/

theorem normaliseLead_eq (lead : Nat) :
    normaliseLead lead = if lead = 0 then 1 else if 16384 < lead then 16384 else lead := by
  unfold normaliseLead
  (repeat' split) <;> omega

theorem rollOne_of_free_hold (lead : Nat) (hlock : (u.trunk p).lock = .unlocked) (hhold : u.inHold = false) :
    rollOne lead u p =
      if (u.trunk p).phase = .bridging ∨ (u.trunk p).phase = .bridged then
        (u.setTrunk p { u.trunk p with rollRequest := some (normaliseLead lead) }, leadResult lead .accepted)
      else (u, .state) := by
  cases hphase : (u.trunk p).phase <;> simp [rollOne, State.phase, hlock, hhold, hphase]

theorem releaseOne_of_free_hold (hlock : (u.trunk p).lock = .unlocked) (hhold : u.inHold = false) :
    releaseOne u p =
      if (u.trunk p).phase = .rolling ∨ (u.trunk p).phase = .rolled then
        (u.setTrunk p { u.trunk p with releaseRequest := true }, .accepted)
      else (u, .state) := by
  cases hphase : (u.trunk p).phase <;> simp [releaseOne, State.phase, hlock, hhold, hphase]

theorem autoOne_of_unlocked (setting lead : Nat) (hlock : (u.trunk p).lock = .unlocked) :
    autoOne setting lead u p =
      if 1 < setting then (u, .badParam)
      else if setting = 1 then
        if (u.trunk p).phase ∈ [.bound, .census, .tracked, .bridging, .bridged, .armed, .rolling, .rolled] then
          (u.setTrunk p { u.trunk p with autoLead := some (normaliseLead lead) }, leadResult lead .done)
        else (u, .state)
      else if (u.trunk p).binding ≠ none then (u.setTrunk p { u.trunk p with autoLead := none }, .done)
      else (u, .state) := by
  cases hphase : (u.trunk p).phase <;> cases hb : (u.trunk p).binding <;>
    simp [autoOne, State.phase, State.isBound, hlock, hphase, hb]

/-- Settles O26. -/
theorem requestsAndAutoAreRecorded : Obligations.RequestsAndAutoAreRecorded := by
  intro s target params p hp clamped
  have hclamped : clamped = normaliseLead := funext fun lead => (normaliseLead_eq lead).symm
  rw [hclamped]
  refine ⟨fun h => ?_, fun h => ?_, fun h => ?_⟩
  · intro u r hlock hhold
    obtain ⟨t, hexec, hanswers⟩ := State.answers_copperRecord h rfl hp
    change (rollOne (parameter params 0).toNat u p).1.answers t (rollOne (parameter params 0).toNat u p).2 []
      at hanswers
    rw [rollOne_of_free_hold _ hlock hhold] at hanswers
    refine ⟨t, hexec, ?_⟩
    intro lead
    split
    · next hphase =>
      rw [if_pos hphase] at hanswers
      exact State.takes_of_answers hanswers
    · next hphase =>
      rw [if_neg hphase] at hanswers
      exact hanswers
  · intro u r hlock hhold
    obtain ⟨t, hexec, hanswers⟩ := State.answers_copperRecord h rfl hp
    change (releaseOne u p).1.answers t (releaseOne u p).2 [] at hanswers
    rw [releaseOne_of_free_hold hlock hhold] at hanswers
    refine ⟨t, hexec, ?_⟩
    split
    · next hphase =>
      rw [if_pos hphase] at hanswers
      exact State.takes_of_answers hanswers
    · next hphase =>
      rw [if_neg hphase] at hanswers
      exact hanswers
  · intro u r hlock
    obtain ⟨t, hexec, hanswers⟩ := State.answers_copperRecord h rfl hp
    change (autoOne (parameter params 0).toNat (parameter params 1).toNat u p).1.answers t
      (autoOne (parameter params 0).toNat (parameter params 1).toNat u p).2 [] at hanswers
    rw [autoOne_of_unlocked _ _ hlock] at hanswers
    refine ⟨t, hexec, ?_⟩
    intro setting lead
    by_cases hbad : 1 < setting
    · rw [if_pos hbad] at hanswers ⊢
      exact hanswers
    rw [if_neg hbad] at hanswers ⊢
    by_cases hset : setting = 1
    · rw [if_pos hset] at hanswers ⊢
      by_cases hphase : r.phase ∈ [.bound, .census, .tracked, .bridging, .bridged, .armed, .rolling, .rolled]
      · rw [if_pos hphase] at hanswers ⊢
        exact State.takes_of_answers hanswers
      · rw [if_neg hphase] at hanswers ⊢
        exact hanswers
    rw [if_neg hset] at hanswers ⊢
    by_cases hb : r.binding ≠ none
    · rw [if_pos hb] at hanswers ⊢
      exact State.takes_of_answers hanswers
    · rw [if_neg hb] at hanswers ⊢
      exact hanswers

/-! ## DISARM and FALLBACK (O27) -/

theorem disarmOne_eq (u : State) (p : Port) :
    disarmOne u p = if (u.trunk p).phase = .armed then (u.disarmRecord p, .done) else (u, .state) := by
  cases hphase : (u.trunk p).phase <;> simp [disarmOne, State.phase, hphase]

theorem fallbackOne_eq (u : State) (p : Port) :
    fallbackOne u p =
      if (u.trunk p).phase = .armed then (u.fallFromArmed p, .done)
      else if (u.trunk p).phase = .rolling ∨ ((u.trunk p).phase = .rolled ∧ (u.trunk p).commit = false) then
        (u.enterUnrolling p .bridged none, .accepted)
      else if (u.trunk p).phase = .rolled ∨ (u.trunk p).phase = .releasing ∨ (u.trunk p).phase = .migrated then
        (u.recordOccurrence .fallbackBlocked (some p), .committed)
      else (u, .state) := by
  cases hphase : (u.trunk p).phase <;> cases hcommit : (u.trunk p).commit <;>
    simp [fallbackOne, State.phase, hphase, hcommit]

/-- Settles O27. -/
theorem disarmAndFallbackReturnTheRecord : Obligations.DisarmAndFallbackReturnTheRecord := by
  intro s target params p hp
  refine ⟨fun h => ?_, fun h => ?_⟩
  · obtain ⟨t, hexec, hanswers⟩ := State.answers_copperRecord h rfl hp
    refine ⟨t, hexec, ?_⟩
    intro u r
    change (disarmOne u p).1.answers t (disarmOne u p).2 [] at hanswers
    rw [disarmOne_eq] at hanswers
    split
    · next hphase =>
      rw [if_pos hphase] at hanswers
      exact (u.movedAlone_disarmRecord p).answers hanswers
    · next hphase =>
      rw [if_neg hphase] at hanswers
      exact hanswers
  · obtain ⟨t, hexec, hanswers⟩ := State.answers_copperRecord h rfl hp
    refine ⟨t, hexec, ?_⟩
    intro u r
    change (fallbackOne u p).1.answers t (fallbackOne u p).2 [] at hanswers
    rw [fallbackOne_eq] at hanswers
    by_cases harmed : r.phase = .armed
    · rw [if_pos harmed] at hanswers ⊢
      exact (u.movedAlone_fallFromArmed p).answers hanswers
    rw [if_neg harmed] at hanswers ⊢
    by_cases hroll : r.phase = .rolling ∨ (r.phase = .rolled ∧ r.commit = false)
    · rw [if_pos hroll] at hanswers ⊢
      exact (u.movedAlone_enterUnrolling p .bridged none).answers hanswers
    rw [if_neg hroll] at hanswers ⊢
    by_cases hcommitted : r.phase = .rolled ∨ r.phase = .releasing ∨ r.phase = .migrated
    · rw [if_pos hcommitted] at hanswers ⊢
      exact hanswers
    · rw [if_neg hcommitted] at hanswers ⊢
      exact hanswers

/-! ## ABORT (O28) -/

theorem State.trunk_abortToBound (u : State) (p q : Port) :
    (u.abortToBound p).trunk q =
      if q = p then { u.trunk p with phase := .bound, indexLost := false } else u.trunk q := by
  have h : (u.abortToBound p).trunk q =
      (((u.removeSweep p).setTrunk p { u.trunk p with phase := .bound }).clearIndex p).trunk q := rfl
  rw [h, State.trunk_clearIndex, State.trunk_setTrunk, State.trunk_setTrunk, if_pos rfl]
  split <;> rfl

theorem State.view_abortToBound (u : State) (p q : Port) :
    (u.abortToBound p).view q = if q = p then none else u.view q :=
  State.view_setView _ p q none

theorem State.abortToBound_frame (u : State) (p : Port) :
    u.abortToBound p = { u with
      trunks := (u.abortToBound p).trunks, links := u.linksWithout p, sweeps := (u.removeSweep p).sweeps,
      link := { u.link with views := (u.abortToBound p).link.views, changePending := true } } := rfl

/-- A record aborted to BOUND (R149). -/
theorem State.answers_abortToBound {result : Result} {words : List Word}
    (h : (u.abortToBound p).answers t result words) :
    u.answered t result words ∧
      u.recordChanged t p { u.trunk p with phase := .bound, indexLost := false } ∧
      t.sweepQueue = u.queueWithout p ∧ t.links = u.linksWithout p ∧
      (∀ q, t.view q = if q = p then none else u.view q) ∧
      t.link = { u.link with views := t.link.views, changePending := true } ∧
      t = { u with trunks := t.trunks, links := t.links, link := t.link, sweeps := t.sweeps, port := t.port,
                   channel := t.channel, arbiter := t.arbiter } := by
  have hport : (u.abortToBound p).port = u.port := rfl
  have htrunk := u.trunk_abortToBound p
  have hview := u.view_abortToBound p
  have hv := u.abortToBound_frame p
  have hqueue : (u.abortToBound p).sweepQueue = u.queueWithout p := u.removeSweep_sweepQueue p
  generalize u.abortToBound p = v at h hport htrunk hview hv hqueue
  have hframe := h.2.1
  have hlink : t.link = v.link := by rw [hframe]
  refine ⟨h.answered hport, fun q => by rw [h.trunk_eq, htrunk], by rw [h.2.2, hqueue], by rw [hframe, hv],
    fun q => by rw [← hview, State.view, hlink, State.view], by rw [hlink, hv], ?_⟩
  obtain ⟨trunks, sweeps, link, hv'⟩ : ∃ trunks sweeps link,
      v = { u with trunks := trunks, links := u.linksWithout p, sweeps := sweeps, link := link } := ⟨_, _, _, hv⟩
  rw [hframe, hv']

/-- Settles O28. -/
theorem abortActsByPhase : Obligations.AbortActsByPhase := by
  intro s target params p h hp u r hlock
  obtain ⟨t, hexec, hanswers⟩ := State.answers_copperRecord h rfl hp
  change (abortOne u p).1.answers t (abortOne u p).2 [] at hanswers
  refine ⟨t, hexec, ?_⟩
  have hunlocked : (r.lock != .unlocked) = false := by rw [hlock]; rfl
  have hr : u.trunk p = r := rfl
  clear_value r u
  unfold abortOne State.phase at hanswers
  simp only [hr, hunlocked, Bool.false_eq_true, if_false] at hanswers
  subst hr
  cases hphase : (u.trunk p).phase <;> simp only [hphase] at hanswers ⊢
  case free | releasing | migrated | unbridging => exact hanswers
  case bound =>
    split
    · next hsweep =>
      rw [if_pos hsweep] at hanswers
      refine ⟨hanswers.answered (by simp), by rw [hanswers.2.2, State.removeSweep_sweepQueue], ?_⟩
      rw [hanswers.2.1]; rfl
    · next hsweep =>
      rw [if_neg hsweep] at hanswers
      exact hanswers
  case census | tracked =>
    exact State.answers_abortToBound hanswers
  case bridging | bridged | armed => exact (u.movedAlone_abortToUnbridging p).answers hanswers
  case rolling => exact (u.movedAlone_enterUnrolling p .bound (u.trunk p).autoLead).answers hanswers
  case rolled =>
    split
    · next hcommit =>
      simp only [hcommit] at hanswers
      exact hanswers
    · next hcommit =>
      have hcommit' : (u.trunk p).commit = false := by simpa using hcommit
      simp only [hcommit'] at hanswers
      exact (u.movedAlone_enterUnrolling p .bound (u.trunk p).autoLead).answers hanswers
  case unrolling =>
    split
    · next hundo =>
      rw [if_pos hundo] at hanswers
      exact State.takes_of_answers hanswers
    · next hundo =>
      rw [if_neg hundo] at hanswers
      exact hanswers

end Sys2Proof.Machine
end

section
/-! SUPPORT. The commands of chapter 2: BIND (O21), UNBIND and GROUPS (O22), PIN and ERASE_IMAGE (O24). -/

namespace Sys2Proof.Machine

variable {u v t : State} {p : Port}

/-- A copper command is served at its row. -/
theorem State.answers_copper {s : State} {c : Command} {target : Byte} {params : List Word}
    {body : Port → State → Answer} (h : s.completes c target params) (hclose : c ≠ .close) (hread : c ≠ .readStore)
    (hbody : c.answer target params = copperCommand body target) (hp : targetOf target = .copper p) :
    ∃ t, exec c.row s = .next t ∧
      (body p (s.foundBy c target params)).1.answers t (body p (s.foundBy c target params)).2.1
        (body p (s.foundBy c target params)).2.2 := by
  have hanswers := State.answers_serve h
  rw [hbody, copperCommand_of_copper _ _ hp] at hanswers
  exact ⟨_, exec_commandRow s hclose hread, hanswers⟩

/-- A device command is served at its row. -/
theorem State.answers_device {s : State} {c : Command} {target : Byte} {params : List Word}
    {body : State → Answer} (h : s.completes c target params) (hclose : c ≠ .close) (hread : c ≠ .readStore)
    (hbody : c.answer target params = deviceCommand body target) (hp : targetOf target = .noRecord) :
    ∃ t, exec c.row s = .next t ∧
      (body (s.foundBy c target params)).1.answers t (body (s.foundBy c target params)).2.1
        (body (s.foundBy c target params)).2.2 := by
  have hanswers := State.answers_serve h
  rw [hbody, deviceCommand_of_noRecord _ _ hp] at hanswers
  exact ⟨_, exec_commandRow s hclose hread, hanswers⟩

/-! ## The map of BIND (R22 (5)) -/

/-- The bytes of a list of words, the low byte of each first. -/
def wordBytes (ws : List Word) : List Byte := ws.foldr (fun w rest => lowByte w :: highByte w :: rest) []

theorem wordBytes_length (ws : List Word) : (wordBytes ws).length = 2 * ws.length := by
  induction ws with
  | nil => rfl
  | cons w rest ih =>
    simp only [wordBytes, List.foldr_cons, List.length_cons] at ih ⊢
    omega

theorem wordBytes_getElem? (ws : List Word) (n : Nat) :
    (wordBytes ws)[n]? = (ws[n / 2]?).map fun w => if n % 2 = 0 then lowByte w else highByte w := by
  induction ws generalizing n with
  | nil => simp [wordBytes]
  | cons w rest ih =>
    match n with
    | 0 => simp [wordBytes]
    | 1 => simp [wordBytes]
    | n + 2 =>
      have hdiv : (n + 2) / 2 = n / 2 + 1 := by omega
      have hmod : (n + 2) % 2 = n % 2 := by omega
      rw [hdiv, hmod, List.getElem?_cons_succ, ← ih]
      rfl

theorem bindEntries_eq (params : List Word) :
    bindEntries params =
      0 :: (wordBytes (params.drop 2)).take 15 ++ 16 :: ((wordBytes (params.drop 2)).drop 15).take 15 := rfl

theorem bindEntries_layout {params : List Word} (h : params.length = 17) :
    (bindEntries params).length = 32 ∧ (bindEntries params)[0]? = some 0 ∧ (bindEntries params)[16]? = some 16 ∧
      ∀ n, n < 30 →
        (bindEntries params)[if n < 15 then n + 1 else n + 2]? =
          (params[2 + n / 2]?).map (fun w => if n % 2 = 0 then lowByte w else highByte w) := by
  have hlength : (wordBytes (params.drop 2)).length = 30 := by rw [wordBytes_length, List.length_drop, h]
  have hfirst : (0 :: (wordBytes (params.drop 2)).take 15).length = 16 := by simp [hlength]
  rw [bindEntries_eq]
  refine ⟨by simp [hlength], by simp, ?_, fun n hn => ?_⟩
  · rw [List.getElem?_append_right (Nat.le_of_eq hfirst), hfirst]; rfl
  · have hget : (params[2 + n / 2]?).map (fun w => if n % 2 = 0 then lowByte w else highByte w) =
        (wordBytes (params.drop 2))[n]? := by rw [wordBytes_getElem?, List.getElem?_drop]
    rw [hget]
    by_cases h15 : n < 15
    · rw [if_pos h15, List.getElem?_append_left (by rw [hfirst]; omega), List.getElem?_cons_succ,
        List.getElem?_take_of_lt h15]
    · rw [if_neg h15, List.getElem?_append_right (by rw [hfirst]; omega), hfirst,
        show n + 2 - 16 = (n - 15) + 1 by omega, List.getElem?_cons_succ, List.getElem?_take_of_lt (by omega),
        List.getElem?_drop, show 15 + (n - 15) = n by omega]

/-- The first `n` entries taken into a map (R22, R34). -/
def mapOfBytesTo (entries : List Byte) (n : Nat) : Option ChannelMap :=
  (List.range n).foldl
    (fun acc i => match acc, entries[i]? with
      | some m, some e => if h : e.toNat < 32 then some (m.setIfInBounds i ⟨e.toNat, h⟩) else none
      | _, _ => none)
    (some identityMap)

theorem mapOfBytes_eq (entries : List Byte) : mapOfBytes entries = mapOfBytesTo entries 32 := rfl

theorem mapOfBytesTo_succ (entries : List Byte) (n : Nat) :
    mapOfBytesTo entries (n + 1) =
      match mapOfBytesTo entries n, entries[n]? with
      | some m, some e => if h : e.toNat < 32 then some (m.setIfInBounds n ⟨e.toNat, h⟩) else none
      | _, _ => none := by
  rw [mapOfBytesTo, List.range_succ, List.foldl_append]
  rfl

/-- A map that is read holds the entries. -/
theorem mapOfBytesTo_entries {entries : List Byte} {n : Nat} {m : ChannelMap}
    (h : mapOfBytesTo entries n = some m) (k : Slot) (hk : k.val < n) :
    entries[k.val]? = some (BitVec.ofNat 8 m[k].val) := by
  induction n generalizing m with
  | zero => exact absurd hk (Nat.not_lt_zero _)
  | succ n ih =>
    rw [mapOfBytesTo_succ] at h
    split at h
    · next m' e hm' he =>
      split at h
      · next hlt =>
        obtain rfl := Option.some.inj h
        by_cases hkn : k.val = n
        · subst hkn
          rw [he]
          simp
        · rw [ih hm' (by omega)]
          have hne : n ≠ k.val := fun e => hkn e.symm
          simp [Vector.getElem_setIfInBounds_ne, hne]
      · contradiction
    · contradiction

/-- Entries that are all slots are read. -/
theorem mapOfBytesTo_isSome {entries : List Byte} {n : Nat}
    (h : ∀ k : Slot, k.val < n → ∃ j : Slot, entries[k.val]? = some (BitVec.ofNat 8 j.val)) (hn : n ≤ 32) :
    (mapOfBytesTo entries n).isSome = true := by
  induction n with
  | zero => rfl
  | succ n ih =>
    obtain ⟨m, hm⟩ := Option.isSome_iff_exists.mp (ih (fun k hk => h k (by omega)) (by omega))
    obtain ⟨j, hj⟩ := h ⟨n, hn⟩ (Nat.lt_succ_self n)
    have hlt : (BitVec.ofNat 8 j.val).toNat < 32 := by
      rw [BitVec.toNat_ofNat]
      omega
    rw [mapOfBytesTo_succ, hm]
    simp only at hj
    simp only [hj, hlt, dite_true, Option.isSome_some]

/-- A map is read exactly from its own entries (R22, R34). -/
theorem mapOfBytes_eq_some_iff (entries : List Byte) (m : ChannelMap) :
    mapOfBytes entries = some m ↔ ∀ k : Slot, entries[k.val]? = some (BitVec.ofNat 8 m[k].val) := by
  refine ⟨fun h k => mapOfBytesTo_entries h k k.isLt, fun h => ?_⟩
  obtain ⟨m', hm'⟩ := Option.isSome_iff_exists.mp
    (mapOfBytesTo_isSome (n := 32) (fun k _ => ⟨m[k], h k⟩) (Nat.le_refl _))
  rw [mapOfBytes_eq, hm', Option.some.injEq]
  ext i hi
  have hentry := (mapOfBytesTo_entries hm' ⟨i, hi⟩ hi).symm.trans (h ⟨i, hi⟩)
  have hval := congrArg BitVec.toNat (Option.some.inj hentry)
  have hlt := (m[i]).isLt
  have hlt' := (m'[i]).isLt
  simp only [BitVec.toNat_ofNat, Fin.getElem_fin] at hval
  omega

theorem bindMap_eq_some_iff (params : List Word) (m : ChannelMap) :
    bindMap params = some m ↔
      validMap m = true ∧
        (if (parameter params 0).getLsbD 15 = true then m = identityMap
          else ∀ k : Slot, (bindEntries params)[k.val]? = some (BitVec.ofNat 8 m[k].val)) := by
  unfold bindMap
  by_cases hidentity : (parameter params 0).getLsbD 15 = true
  · simp only [if_pos hidentity, Option.some.injEq]
    refine ⟨fun h => ⟨h ▸ validMap_identityMap, h.symm⟩, fun h => h.2.symm⟩
  · simp only [if_neg hidentity, ← mapOfBytes_eq_some_iff]
    cases hm : mapOfBytes (bindEntries params) with
    | none => simp
    | some n =>
      by_cases hvalid : validMap n = true
      · simp only [if_pos hvalid, Option.some.injEq]
        exact ⟨fun h => ⟨h ▸ hvalid, h⟩, fun h => h.2⟩
      · simp only [if_neg hvalid, Option.some.injEq, reduceCtorEq, false_iff]
        rintro ⟨hv, rfl⟩
        exact hvalid hv

/-! ## BIND (O21) -/

theorem fibrePortOf_eq_some_iff (n : Nat) (F : FibrePort) : fibrePortOf n = some F ↔ F.number = n := by
  have hF := F.isLt
  unfold fibrePortOf FibrePort.number
  split
  · simp only [Option.some.injEq, Fin.ext_iff]
    omega
  · simp only [reduceCtorEq, false_iff]
    omega

theorem fibrePortOf_eq_none {n : Nat} (h : ¬ (64 ≤ n ∧ n ≤ 127)) : fibrePortOf n = none :=
  dif_neg (by omega)

/-- Whether a fibre port or a circuit is taken already (R22). -/
def State.bindConflict (u : State) (F : FibrePort) (circuit : Word) : Prop :=
  u.boundTo F ≠ none ∨ ∃ q b, (u.trunk q).binding = some b ∧ b.circuit = circuit

theorem State.bindConflict_iff (u : State) (F : FibrePort) (circuit : Word) :
    ((u.boundTo F).isSome || u.circuitHeld circuit) = true ↔ u.bindConflict F circuit := by
  rw [Bool.or_eq_true, State.circuitHeld_iff, Option.isSome_iff_ne_none, State.bindConflict]

theorem bindRecord_of_not_free {params : List Word} (h : (u.trunk p).phase ≠ .free) :
    bindRecord params p u = (u, .state, []) := by
  simp [bindRecord, State.phase, h]

theorem bindRecord_of_no_port {params : List Word} (h : (u.trunk p).phase = .free)
    (hport : fibrePortOf (lowByte (parameter params 0)).toNat = none) :
    bindRecord params p u = (u, .badParam, []) := by
  simp [bindRecord, State.phase, h, hport]

theorem bindRecord_of_port {params : List Word} {F : FibrePort} (h : (u.trunk p).phase = .free)
    (hport : fibrePortOf (lowByte (parameter params 0)).toNat = some F) :
    bindRecord params p u =
      if ((u.boundTo F).isSome || u.circuitHeld (parameter params 1)) = true then (u, .conflict, [])
      else
        match bindMap params with
        | none => (u, .map, [])
        | some m =>
          ((((u.setTrunk p ((u.trunk p).madeBound
              { fibre := F, circuit := parameter params 1, map := m, digest := mapDigest m, prepared := false,
                fibreAlarm := u.link.alarmSet.getLsbD F.val })).setBoundTo F (some p)).queueSweep .prepare p),
            .accepted, []) := by
  have hphase : (u.phase p != .free) = false := by simp [State.phase, h]
  unfold bindRecord
  rw [hphase, hport]
  rfl

/-- Settles O21. -/
theorem bindMakesTheRecordBound : Obligations.BindMakesTheRecordBound := by
  refine ⟨fun params h => bindEntries_layout h, fun s target params p h hp => ?_⟩
  intro u r fibre circuit identity given
  obtain ⟨t, hexec, hanswers⟩ := State.answers_copper h (by simp) (by simp) rfl hp
  change (bindRecord params p u).1.answers t (bindRecord params p u).2.1 (bindRecord params p u).2.2 at hanswers
  have hgiven : ∀ m, bindMap params = some m ↔ given m := bindMap_eq_some_iff params
  refine ⟨t, hexec, fun hphase => ?_, fun hphase hfibre => ?_, fun F hphase hF => ?_⟩
  · rw [bindRecord_of_not_free hphase] at hanswers
    exact hanswers
  · rw [bindRecord_of_no_port hphase (fibrePortOf_eq_none hfibre)] at hanswers
    exact hanswers
  · rw [bindRecord_of_port hphase ((fibrePortOf_eq_some_iff _ _).mpr hF)] at hanswers
    intro conflict
    have hconflict : ((u.boundTo F).isSome || u.circuitHeld (parameter params 1)) = true ↔ conflict :=
      u.bindConflict_iff F circuit
    refine ⟨fun hc => ?_, fun hc hnone => ?_, fun m hc hm => ?_⟩
    · rw [if_pos (hconflict.mpr hc)] at hanswers
      exact hanswers
    · have hmap : bindMap params = none := Option.eq_none_iff_forall_ne_some.mpr fun m hm => hnone m ((hgiven m).mp hm)
      rw [if_neg ((not_congr hconflict).mpr hc), hmap] at hanswers
      exact hanswers
    · rw [if_neg ((not_congr hconflict).mpr hc), (hgiven m).mpr hm] at hanswers
      have hframe := hanswers.2.1
      refine ⟨hanswers.answered (by simp), fun q => ?_, fun G => ?_, ?_, ?_⟩
      · rw [hanswers.trunk_eq]
        exact u.trunk_setTrunk p q _
      · rw [hframe]
        exact State.boundTo_setBoundTo _ F G _
      · rw [hanswers.2.2]
        exact State.queueSweep_sweepQueue ((u.setTrunk p _).setBoundTo F (some p)) .prepare p
      · rw [hframe]
        rfl

/-! ## UNBIND and GROUPS (O22) -/

theorem unbindOne_of_unlocked (hlock : (u.trunk p).lock = .unlocked) :
    unbindOne u p = if (u.trunk p).phase = .bound then (u.freeRecord p, .done) else (u, .state) := by
  cases hphase : (u.trunk p).phase <;> simp [unbindOne, State.phase, hlock, hphase]

theorem State.freeRecord_of_bound {b : Binding} (hb : (u.trunk p).binding = some b) :
    u.freeRecord p = ((u.setBoundTo b.fibre none).setTrunk p TrunkRecord.freeRecord).removeSweep p := by
  simp only [State.freeRecord, hb]

/-- The nibble of a word at a place (R26). -/
def nibbleAt (w : Word) (i : Nat) : Nat := (w.extractLsb' (4 * i) 4).toNat

theorem exists_nibble_iff (w : Word) (P : Nat → Prop) :
    (∃ i < 4, P (nibbleAt w i)) ↔
      ∃ n ∈ [w.extractLsb' 0 4, w.extractLsb' 4 4, w.extractLsb' 8 4, w.extractLsb' 12 4], P n.toNat := by
  simp only [List.mem_cons, List.not_mem_nil, or_false, exists_eq_or_imp, exists_eq_left, nibbleAt]
  constructor
  · rintro ⟨i, hi, h⟩
    obtain rfl | rfl | rfl | rfl : i = 0 ∨ i = 1 ∨ i = 2 ∨ i = 3 := by omega
    · exact .inl h
    · exact .inr (.inl h)
    · exact .inr (.inr (.inl h))
    · exact .inr (.inr (.inr h))
  · rintro (h | h | h | h)
    · exact ⟨0, by omega, h⟩
    · exact ⟨1, by omega, h⟩
    · exact ⟨2, by omega, h⟩
    · exact ⟨3, by omega, h⟩

/-- A nibble of 7h–Eh is refused (R26). -/
theorem groupsOfWord_eq_none {w : Word} (h : ∃ i < 4, 7 ≤ nibbleAt w i ∧ nibbleAt w i ≤ 14) :
    groupsOfWord w = none := by
  rw [exists_nibble_iff w fun n => 7 ≤ n ∧ n ≤ 14] at h
  unfold groupsOfWord
  rw [if_pos]
  simpa only [List.any_eq_true, Bool.and_eq_true, decide_eq_true_eq] using h

/-- The groups named, each once and ascending (R26). -/
theorem groupsOfWord_eq_some {w : Word} (h : ∀ i < 4, nibbleAt w i ≤ 6 ∨ nibbleAt w i = 15) :
    ∃ gs, groupsOfWord w = some gs ∧ gs.Pairwise (· < ·) ∧ ∀ g : Fin 7, g ∈ gs ↔ ∃ i < 4, nibbleAt w i = g.val := by
  have hnone : ¬ ∃ i < 4, 7 ≤ nibbleAt w i ∧ nibbleAt w i ≤ 14 := by
    rintro ⟨i, hi, h7, h14⟩
    rcases h i hi with h | h <;> omega
  rw [exists_nibble_iff w fun n => 7 ≤ n ∧ n ≤ 14] at hnone
  refine ⟨_, by unfold groupsOfWord; rw [if_neg]; simpa only [List.any_eq_true, Bool.and_eq_true, decide_eq_true_eq]
    using hnone, (List.pairwise_lt_finRange 7).filter _, fun g => ?_⟩
  rw [exists_nibble_iff w fun n => n = g.val]
  simp only [List.mem_filter, List.mem_finRange, true_and, List.any_eq_true, decide_eq_true_eq]

theorem groupsRecord_of_unlocked (w : Word) (hlock : (u.trunk p).lock = .unlocked) :
    groupsRecord w p u =
      if (u.trunk p).phase = .free then (u, .state, [])
      else
        match groupsOfWord w with
        | none => (u, .badParam, [])
        | some gs => (u.setTrunk p { u.trunk p with groups := gs }, .done, []) := by
  have hunlocked : ((u.trunk p).lock != .unlocked) = false := by simp [hlock]
  unfold groupsRecord State.phase
  rw [hunlocked]
  rfl

/-- Settles O22. -/
theorem unbindAndGroupsActOnTheRecord : Obligations.UnbindAndGroupsActOnTheRecord := by
  refine fun s target params p hp => ⟨fun h => ?_, fun h => ?_⟩
  · intro u r hlock
    obtain ⟨t, hexec, hanswers⟩ := State.answers_copperRecord h rfl hp
    change (unbindOne u p).1.answers t (unbindOne u p).2 [] at hanswers
    rw [unbindOne_of_unlocked hlock] at hanswers
    refine ⟨t, hexec, fun hphase => ?_, fun b hphase hb => ?_⟩
    · rw [if_neg hphase] at hanswers
      exact hanswers
    · rw [if_pos hphase, State.freeRecord_of_bound hb] at hanswers
      have hframe := hanswers.2.1
      refine ⟨hanswers.answered (by simp), fun q => ?_, fun F => ?_, ?_, ?_⟩
      · rw [hanswers.trunk_eq]
        exact State.trunk_setTrunk (u.setBoundTo b.fibre none) p q _
      · rw [hframe]
        exact State.boundTo_setBoundTo u b.fibre F none
      · rw [hanswers.2.2, State.removeSweep_sweepQueue]
        rfl
      · rw [hframe]
        rfl
  · intro u r hlock
    obtain ⟨t, hexec, hanswers⟩ := State.answers_copper h (by simp) (by simp) rfl hp
    change (groupsRecord (parameter params 0) p u).1.answers t (groupsRecord (parameter params 0) p u).2.1
      (groupsRecord (parameter params 0) p u).2.2 at hanswers
    rw [groupsRecord_of_unlocked _ hlock] at hanswers
    refine ⟨t, hexec, ?_⟩
    intro nibble
    refine ⟨fun hphase => ?_, fun hphase hbad => ?_, fun hphase hgood => ?_⟩
    · rw [if_pos hphase] at hanswers
      exact hanswers
    · rw [if_neg hphase, groupsOfWord_eq_none hbad] at hanswers
      exact hanswers
    · obtain ⟨gs, hgs, hsorted, hmem⟩ := groupsOfWord_eq_some hgood
      rw [if_neg hphase, hgs] at hanswers
      exact ⟨gs, hsorted, hmem, State.takes_of_answers hanswers⟩

/-! ## PIN and ERASE_IMAGE (O24) -/

theorem slotContent_eq (p : Port) (r : TrunkRecord) (b : Binding) :
    slotContent p r b =
      { copper := p, fibre := BitVec.ofNat 8 b.fibre.number, circuit := b.circuit,
        map := b.map.map (fun j => BitVec.ofNat 8 j.val), groups := r.groups } := by
  have hmap : Vector.ofFn (fun k => BitVec.ofNat 8 b.map[k].val) = b.map.map (fun j => BitVec.ofNat 8 j.val) := by
    ext i hi
    simp
  rw [slotContent, hmap]

theorem pinOne_of_not_migrated (h : (u.trunk p).phase ≠ .migrated) : pinOne u p = (u, .state) := by
  unfold pinOne State.phase
  split
  · contradiction
  · rfl

theorem pinOne_of_busy {b : Binding} (hphase : (u.trunk p).phase = .migrated) (hb : (u.trunk p).binding = some b)
    (hbusy : u.image.state ≠ .ready) : pinOne u p = (u, .busy) := by
  simp [pinOne, State.phase, hphase, hb, hbusy]

theorem pinOne_of_ready {b : Binding} (hphase : (u.trunk p).phase = .migrated) (hb : (u.trunk p).binding = some b)
    (hready : u.image.state = .ready) :
    pinOne u p =
      match u.slot p with
      | .blank =>
        ({ u.setLock p .pinned with
          image := { u.image with state := .programming p (slotContent p (u.trunk p) b) } }, .accepted)
      | .failing => (u, .state)
      | .good c => if c = slotContent p (u.trunk p) b then (u, .done) else (u, .state) := by
  have hready' : (u.image.state != .ready) = false := by rw [hready]; rfl
  simp only [pinOne, State.phase, hphase, hb, hready', Bool.false_eq_true, if_false]
  rfl

/-- Settles O24. -/
theorem pinAndEraseStartImageOperations : Obligations.PinAndEraseStartImageOperations := by
  refine ⟨fun s target params p h hp => ?_, fun s target params h hp => ?_⟩
  · intro u r
    obtain ⟨t, hexec, hanswers⟩ := State.answers_copperRecord h rfl hp
    change (pinOne u p).1.answers t (pinOne u p).2 [] at hanswers
    refine ⟨t, hexec, fun hphase => ?_, fun b hphase hb => ?_⟩
    · rw [pinOne_of_not_migrated hphase] at hanswers
      exact hanswers
    · intro content
      have hcontent : slotContent p (u.trunk p) b = content := slotContent_eq p r b
      refine ⟨fun hbusy => ?_, fun hready hslot => ?_, fun hready hblank hslot => ?_, fun hready hslot => ?_⟩
      · rw [pinOne_of_busy hphase hb hbusy] at hanswers
        exact hanswers
      · rw [pinOne_of_ready hphase hb hready, hslot] at hanswers
        simp only [hcontent, if_true] at hanswers
        exact hanswers
      · rw [pinOne_of_ready hphase hb hready] at hanswers
        cases hc : u.slot p with
        | blank => exact absurd hc hblank
        | failing => simp only [hc] at hanswers; exact hanswers
        | good c =>
          have hne : c ≠ content := fun e => hslot (hc.trans (congrArg _ e))
          simp only [hc, hcontent, if_neg hne] at hanswers
          exact hanswers
      · rw [pinOne_of_ready hphase hb hready, hslot] at hanswers
        simp only [hcontent] at hanswers
        have hframe := hanswers.2.1
        refine ⟨hanswers.answered rfl, fun q => ?_, by rw [hframe], by rw [hframe]; rfl, by rw [hanswers.2.2]; rfl⟩
        rw [hanswers.trunk_eq]
        exact u.trunk_setTrunk p q _
  · intro u
    obtain ⟨t, hexec, hanswers⟩ := State.answers_device h (by simp) (by simp) rfl hp
    change (Machine.eraseImage u).1.answers t (Machine.eraseImage u).2.1 (Machine.eraseImage u).2.2 at hanswers
    refine ⟨t, hexec, fun hbusy => ?_, fun hready => ?_⟩
    · have hbusy' : (u.image.state != .ready) = true := by simpa using hbusy
      simp only [Machine.eraseImage, hbusy', if_true] at hanswers
      exact hanswers
    · have hready' : (u.image.state != .ready) = false := by rw [hready]; rfl
      simp only [Machine.eraseImage, hready', Bool.false_eq_true, if_false] at hanswers
      exact hanswers

end Sys2Proof.Machine
end

section
/-! SUPPORT. The device-wide commands: HOLD and CLEAR_HOLD (O29), SET_ACTION (O31), SET_TIMING (O32), and READ_STORE
(O11). -/

namespace Sys2Proof.Machine

variable {u v t : State}

/-! ## HOLD and CLEAR_HOLD (O29) -/

/-- A device command that is not refused is found at the unit boundary. -/
theorem State.foundBy_of_not_refused {s : State} {c : Command} {target : Byte} {params : List Word}
    (h : Answer.refused (c.answer target params s) = false) : s.foundBy c target params = s.atBoundary := by
  simp [State.foundBy, h]

theorem State.alertLine_congr (h : t.faults.sources = u.faults.sources) : t.alertLine = u.alertLine := by
  simp only [State.alertLine, h]

/-- Settles O29. -/
theorem holdAndClearHoldSetTheFlag : Obligations.HoldAndClearHoldSetTheFlag := by
  refine fun s target params hp => ⟨fun h => ?_, fun h => ?_⟩
  · obtain ⟨t, hexec, hanswers⟩ := State.answers_device h (by simp) (by simp) rfl hp
    rw [State.foundBy_of_not_refused
      (by simp [Command.answer, deviceCommand, hp, Answer.refused, Result.refuses])] at hanswers
    refine ⟨t, hexec, hanswers, ?_, fun sw hsw => ?_⟩
    · exact State.alertLine_congr (by rw [hanswers.2.1]; rfl)
    · have heligible := List.find?_some hsw
      have hhold : t.inHold = true := by rw [hanswers.2.1]; rfl
      simpa [State.eligible, hhold] using heligible
  · obtain ⟨t, hexec, hanswers⟩ := State.answers_device h (by simp) (by simp) rfl hp
    rw [State.foundBy_of_not_refused
      (by simp [Command.answer, deviceCommand, hp, Answer.refused, Result.refuses])] at hanswers
    refine ⟨t, hexec, hanswers, ?_, fun sw => ?_⟩
    · exact State.alertLine_congr (by rw [hanswers.2.1]; rfl)
    · have hhold : t.inHold = false := by rw [hanswers.2.1]; rfl
      simp [State.eligible, hhold]

/-! ## SET_ACTION (O31) -/

theorem faultSourceOf_number (src : FaultSource) : faultSourceOf src.number = some src := by
  cases src <;> rfl

theorem faultSourceOf_eq_none {n : Nat} (h : n = 0 ∨ 16 < n) : faultSourceOf n = none := by
  unfold faultSourceOf
  rw [List.find?_eq_none]
  intro src _
  have hnumber : 1 ≤ src.number ∧ src.number ≤ 16 := by unfold FaultSource.number; omega
  simp only [decide_eq_true_eq]
  omega

theorem FaultClass.ofCode_eq (c : BitVec 2) :
    FaultClass.ofCode c = match c.toNat with
      | 0 => .record | 1 => .alert | 2 => .hold | _ => .fallback := by
  revert c
  decide

theorem setAction_of_source {w : Word} {src : FaultSource} (hsrc : src.number = (w.extractLsb' 0 5).toNat) :
    Machine.setAction w u =
      (u.setSource src
          { u.source src with
            mask := w.getLsbD 7
            cls := if src = .fallbackBlocked ∧ FaultClass.ofCode (w.extractLsb' 8 2) = .fallback then .hold
              else FaultClass.ofCode (w.extractLsb' 8 2) },
        if src = .fallbackBlocked ∧ FaultClass.ofCode (w.extractLsb' 8 2) = .fallback then .clamped else .done, []) := by
  unfold Machine.setAction
  rw [← hsrc, faultSourceOf_number]
  by_cases hclamped : src = .fallbackBlocked ∧ FaultClass.ofCode (w.extractLsb' 8 2) = .fallback
  · simp [hclamped]
  · have hclamped' : ((decide (src = .fallbackBlocked)) &&
        decide (FaultClass.ofCode (w.extractLsb' 8 2) = .fallback)) = false := by simpa using hclamped
    simp only [hclamped', Bool.false_eq_true, if_false, if_neg hclamped]

/-- Settles O31. -/
theorem setActionSetsMaskAndClass : Obligations.SetActionSetsMaskAndClass := by
  intro s target params h u number cls
  have hcls : FaultClass.ofCode ((parameter params 0).extractLsb' 8 2) = cls := FaultClass.ofCode_eq _
  have hanswers := State.answers_serve h
  change (deviceCommand (Machine.setAction (parameter params 0)) target u).1.answers _
    (deviceCommand (Machine.setAction (parameter params 0)) target u).2.1
    (deviceCommand (Machine.setAction (parameter params 0)) target u).2.2 at hanswers
  refine ⟨_, exec_commandRow s (c := .setAction) (by simp) (by simp), fun hp => ?_, fun hp hnumber => ?_,
    fun src hp hsrc => ?_⟩
  · rw [deviceCommand_of_ne_noRecord _ _ hp] at hanswers
    exact hanswers
  · rw [deviceCommand_of_noRecord _ _ hp, Machine.setAction, faultSourceOf_eq_none hnumber] at hanswers
    exact hanswers
  · intro clamped
    rw [deviceCommand_of_noRecord _ _ hp, setAction_of_source hsrc, hcls] at hanswers
    generalize s.serve .setAction Command.setAction.answer = t at hanswers ⊢
    have hframe := hanswers.2.1
    refine ⟨hanswers.answered rfl, fun other => ?_, by rw [hframe]; rfl, by rw [hframe]; rfl, by rw [hframe]; rfl,
      hanswers.2.2⟩
    have hsource : t.source other = (u.setSource src _).source other := (congrArg (State.source · other) hframe :)
    rw [hsource, State.source_setSource]

/-! ## SET_TIMING (O32) -/

theorem clampInt_eq (trim : Int) :
    clampInt (-3) 4 trim = if trim < -3 then -3 else if 4 < trim then 4 else trim := by
  unfold clampInt
  (repeat' split) <;> omega

theorem clampNat_eq {low high n : Nat} (h : low ≤ high) :
    clampNat low high n = if n < low then low else if high < n then high else n := by
  unfold clampNat
  (repeat' split) <;> omega

/-- Settles O32. -/
theorem setTimingClampsTheFiveSettings : Obligations.SetTimingClampsTheFiveSettings := by
  intro s target params h hp u trim mantissa exponent period limit timing
  obtain ⟨t, hexec, hanswers⟩ := State.answers_device h (by simp) (by simp) rfl hp
  change (Machine.setTiming params u).1.answers t (Machine.setTiming params u).2.1 (Machine.setTiming params u).2.2
    at hanswers
  have hmantissa : mantissa < 256 := (lowByte (parameter params 1)).isLt
  have hexponent : exponent < 256 := (highByte (parameter params 1)).isLt
  have h1 : clampNat 1 255 mantissa = if mantissa = 0 then 1 else mantissa := by
    rw [clampNat_eq (by omega)]; (repeat' split) <;> omega
  have h2 : clampNat 0 15 exponent = if 15 < exponent then 15 else exponent := by
    rw [clampNat_eq (by omega), if_neg (by omega)]
  have h3 : clampNat 4 255 period = if period < 4 then 4 else if 255 < period then 255 else period :=
    clampNat_eq (by omega)
  have h4 : clampNat 1 15 limit = if limit = 0 then 1 else if 15 < limit then 15 else limit := by
    rw [clampNat_eq (by omega)]; (repeat' split) <;> omega
  refine ⟨t, hexec, ?_⟩
  simp only [Machine.setTiming, Bool.and_eq_true, decide_eq_true_eq, and_assoc, clampInt_eq, mantissa, exponent, period,
    limit] at hanswers h1 h2 h3 h4
  simp only [h1, h2, h3, h4] at hanswers
  exact hanswers

/-! ## READ_STORE (O11) -/

theorem State.serveReadStore_of_noRecord {s : State} {target : Byte} {params : List Word}
    (h : s.completes .readStore target params) (hp : targetOf target = .noRecord) :
    s.serveReadStore =
      if 4095 < (parameter params 0).toNat then (State.respond (s, .badParam, [])).resume
      else (s.requestRaw (parameter params 0)).resume := by
  unfold State.completes at h
  simp only [State.serveReadStore, h, hp]

/-- While the access of a READ_STORE waits, the channel serves nothing (R37, R41). -/
theorem State.channelAct_of_rawPending {s : State} (h : s.rawPending = true) : s.channelAct = none := by
  unfold State.channelAct
  split
  · simp [h]
  · rfl

/-- Settles O11. -/
theorem readStoreReturnsTheRawWord : Obligations.ReadStoreReturnsTheRawWord := by
  refine ⟨fun s target params command taken required h hp hstate => ⟨_, exec_readStoreRow s, ?_⟩,
    fun s x command taken required hunit hstate => ⟨_, exec_row hunit, ?_⟩⟩
  · rw [State.serveReadStore_of_noRecord h hp]
    split
    · exact State.answers_respond (s, .badParam, [])
    · have hrequest : s.requestRaw (parameter params 0) = { s with
          channel := { s.channel with state := .collecting command (taken ++ [parameter params 0]) required }
          arbiter := { s.arbiter with waiting := some (.raw ((parameter params 0).extractLsb' 0 12)) } } := by
        simp only [State.requestRaw, hstate]
      generalize s.requestRaw (parameter params 0) = v at hrequest ⊢
      refine ⟨?_, by rw [State.resume_channel, hrequest], ?_, fun hbusy => ?_, fun hfree hsweeps hdue => ?_⟩
      · rw [State.resume_eq]
        generalize v.resume.sweeps = sweeps
        generalize v.resume.arbiter = arbiter
        rw [hrequest]
      · rw [State.resume_sweepQueue, hrequest]; rfl
      · rw [State.resume_busy (by rw [hrequest]; exact Option.isSome_iff_ne_none.mpr hbusy), hrequest]
      · have hwaits : v.eventWaits = false := by
          rw [State.eventWaits, State.channelAct_of_rawPending (by rw [hrequest]; rfl), hrequest]
          simp [hdue]
        rw [State.resume_grants_waiting (u := .raw ((parameter params 0).extractLsb' 0 12)) (by rw [hrequest]; exact hfree)
          (by rw [hrequest]) (by rw [hrequest]; exact hsweeps) hwaits]
  · have hfinish : s.finishUnit = { s with
        channel := { state := .answering [headerWord .done 2, s.readWord x, flagBit (parityFailed (s.readWord x)) 0] 0,
                     lastResult := .done }
        port := { s.port with cycle := none }
        arbiter := { s.arbiter with inProgress := none } } := by
      simp [State.finishUnit, State.atUnitEnd, State.atBoundary, hunit, State.runUnit, State.runRawRead,
        State.answerRaw, hstate, State.giveReady, State.moveCursorOf]
    have hflag : flagBit (parityFailed (s.readWord x)) 0 = if oddOnes (s.readWord x) then 1 else 0 := by
      unfold flagBit parityFailed
      cases oddOnes (s.readWord x) <;> rfl
    rw [hflag] at hfinish
    generalize s.finishUnit = v at hfinish ⊢
    refine ⟨⟨by rw [State.resume_channel, hfinish]; rfl, by rw [State.resume_port, hfinish]⟩, ?_, ?_⟩
    · rw [State.resume_eq]
      generalize v.resume.sweeps = sweeps
      generalize v.resume.arbiter = arbiter
      rw [hfinish]
    · rw [State.resume_sweepQueue, hfinish]; rfl

end Sys2Proof.Machine
end

section
/-! SUPPORT. The queries of chapter 11: the bits of their words, STATUS (O33), QUERY_TRUNK (O34), QUERY_FAULTS and
QUERY_INDEX (O35). -/

namespace Sys2Proof.Machine

variable {u v t : State}

/-! ## Bits and fields of a word -/

/-- A flag is seen at its own bit alone. -/
theorem getLsbD_flagBit (b : Bool) {position : Nat} (hp : position < 16) (i : Nat) :
    (flagBit b position).getLsbD i = (b && i = position) := by
  cases b
  · simp [flagBit]
  · simp only [flagBit, if_true, BitVec.getLsbD_ofNat, Nat.testBit_two_pow, Bool.true_and]
    by_cases hi : position = i
    · subst hi; simp [hp]
    · simp [hi, Ne.symm hi]

/-- A field is seen from its position on. -/
theorem getLsbD_fieldAt (n position i : Nat) :
    (fieldAt n position).getLsbD i = (decide (i < 16) && decide (position ≤ i) && n.testBit (i - position)) := by
  rw [fieldAt, BitVec.getLsbD_ofNat, Nat.testBit_mul_two_pow, Bool.and_assoc]

/-- A field is seen nowhere below its position and nowhere beyond its width. -/
theorem getLsbD_fieldAt_outside {n width position i : Nat} (hn : n < 2 ^ width)
    (hi : i < position ∨ position + width ≤ i) : (fieldAt n position).getLsbD i = false := by
  rw [getLsbD_fieldAt]
  rcases hi with hi | hi
  · simp [Nat.not_le.mpr hi]
  · rw [Nat.testBit_lt_two_pow (Nat.lt_of_lt_of_le hn (Nat.pow_le_pow_right (by omega) (by omega))), Bool.and_false]

/-- A field read back from its bits. -/
theorem extractLsb'_toNat_of_bits {w : Word} {start len n : Nat} (hn : n < 2 ^ len)
    (h : ∀ i < len, w.getLsbD (start + i) = n.testBit i) : (w.extractLsb' start len).toNat = n := by
  apply Nat.eq_of_testBit_eq
  intro i
  rw [BitVec.testBit_toNat, BitVec.getLsbD_extractLsb']
  by_cases hi : i < len
  · simp [hi, h i hi]
  · rw [Nat.testBit_lt_two_pow (Nat.lt_of_lt_of_le hn (Nat.pow_le_pow_right (by omega) (by omega)))]
    simp [hi]

theorem extractLsb'_eq_of_bits {w : Word} {start len : Nat} {c : BitVec len}
    (h : ∀ i < len, w.getLsbD (start + i) = c.getLsbD i) : w.extractLsb' start len = c := by
  apply BitVec.eq_of_getLsbD_eq
  intro i hi
  simp [hi, h i hi]

/-- A number laid into a field is read back where the field is seen. -/
theorem getLsbD_fieldAt_inside (n : Nat) {position i : Nat} (hi : position + i < 16) :
    (fieldAt n position).getLsbD (position + i) = n.testBit i := by
  rw [getLsbD_fieldAt]
  simp [hi]

/-- Two bytes laid side by side are read back. -/
theorem bytes_of_fields {a b : Nat} (ha : a < 256) (hb : b < 256) :
    (lowByte (fieldAt a 0 ||| fieldAt b 8)).toNat = a ∧ (highByte (fieldAt a 0 ||| fieldAt b 8)).toNat = b := by
  refine ⟨extractLsb'_toNat_of_bits ha fun i hi => ?_, extractLsb'_toNat_of_bits hb fun i hi => ?_⟩
  · rw [BitVec.getLsbD_or, getLsbD_fieldAt_inside a (by omega),
      getLsbD_fieldAt_outside (n := b) (width := 8) hb (by omega), Bool.or_false]
  · rw [BitVec.getLsbD_or, getLsbD_fieldAt_inside b (by omega),
      getLsbD_fieldAt_outside (n := a) (width := 8) ha (by omega), Bool.false_or]

/-! ## STATUS (O33) -/

theorem SyncState.code_lt (x : SyncState) : x.code < 2 ^ 3 := by cases x <;> decide

theorem ImageState.code_lt (x : ImageState) : x.code < 2 ^ 2 := by
  cases x <;> simp [ImageState.code]

/-- Word 1 of STATUS (section 11.8.4). -/
theorem statusWord1_fields {sync image : Nat} (hsync : sync < 2 ^ 3) (himage : image < 2 ^ 2) (hold alert : Bool) :
    let w := fieldAt sync 0 ||| flagBit hold 8 ||| flagBit alert 9 ||| fieldAt image 12
    (w.extractLsb' 0 3).toNat = sync ∧ w.getLsbD 8 = hold ∧ w.getLsbD 9 = alert ∧
      (w.extractLsb' 12 2).toNat = image := by
  intro w
  have hbit (i : Nat) : w.getLsbD i = ((fieldAt sync 0).getLsbD i || (hold && i = 8) || (alert && i = 9) ||
      (fieldAt image 12).getLsbD i) := by
    simp only [w, BitVec.getLsbD_or, getLsbD_flagBit _ (show 8 < 16 by omega), getLsbD_flagBit _ (show 9 < 16 by omega)]
  have hsync' {i : Nat} (hi : 3 ≤ i) : (fieldAt sync 0).getLsbD i = false :=
    getLsbD_fieldAt_outside hsync (.inr (by omega))
  have himage' {i : Nat} (hi : i < 12) : (fieldAt image 12).getLsbD i = false :=
    getLsbD_fieldAt_outside himage (.inl hi)
  refine ⟨extractLsb'_toNat_of_bits hsync fun i hi => ?_, ?_, ?_, extractLsb'_toNat_of_bits himage fun i hi => ?_⟩
  · have h8 : i ≠ 8 := by omega
    have h9 : i ≠ 9 := by omega
    rw [hbit, himage' (by omega), getLsbD_fieldAt_inside sync (by omega)]
    simp [h8, h9]
  · rw [hbit, himage' (by omega), hsync' (by omega)]
    simp
  · rw [hbit, himage' (by omega), hsync' (by omega)]
    simp
  · have h8 : 12 + i ≠ 8 := by omega
    have h9 : 12 + i ≠ 9 := by omega
    rw [hbit, hsync' (by omega), getLsbD_fieldAt_inside image (by omega)]
    simp [h8, h9]

/-- Word 6 of STATUS (section 11.8.4). -/
theorem statusWord6_fields (peer : Byte) (heard disabled : Bool) (count : Nat) :
    let w := peer.setWidth 16 ||| flagBit heard 8 ||| flagBit disabled 9 ||| fieldAt count 12
    lowByte w = peer ∧ w.getLsbD 8 = heard ∧ w.getLsbD 9 = disabled ∧
      (count < 16 → (w.extractLsb' 12 4).toNat = count) := by
  intro w
  have hbit (i : Nat) : w.getLsbD i = ((peer.setWidth 16).getLsbD i || (heard && i = 8) || (disabled && i = 9) ||
      (fieldAt count 12).getLsbD i) := by
    simp only [w, BitVec.getLsbD_or, getLsbD_flagBit _ (show 8 < 16 by omega), getLsbD_flagBit _ (show 9 < 16 by omega)]
  have hpeer {i : Nat} (hi : 8 ≤ i) : (peer.setWidth 16).getLsbD i = false := by
    rw [BitVec.getLsbD_setWidth, BitVec.getLsbD_of_ge peer i hi, Bool.and_false]
  have hcount {i : Nat} (hi : i < 12) : (fieldAt count 12).getLsbD i = false := by
    rw [getLsbD_fieldAt]
    simp [Nat.not_le.mpr hi]
  refine ⟨extractLsb'_eq_of_bits fun i hi => ?_, ?_, ?_, fun hlt => extractLsb'_toNat_of_bits hlt fun i hi => ?_⟩
  · have h8 : i ≠ 8 := by omega
    have h9 : i ≠ 9 := by omega
    have h16 : i < 16 := by omega
    rw [hbit, hcount (by omega), BitVec.getLsbD_setWidth]
    simp [h8, h9, h16]
  · rw [hbit, hcount (by omega), hpeer (by omega)]
    simp
  · rw [hbit, hcount (by omega), hpeer (by omega)]
    simp
  · have h8 : 12 + i ≠ 8 := by omega
    have h9 : 12 + i ≠ 9 := by omega
    rw [hbit, hpeer (by omega), getLsbD_fieldAt_inside count (by omega)]
    simp [h8, h9]

/-- Settles O33. -/
theorem statusReportsTheDevice : Obligations.StatusReportsTheDevice := by
  intro s target params h hp u
  obtain ⟨t, hexec, hanswers⟩ := State.answers_device h (by simp) (by simp) rfl hp
  obtain ⟨hsync, hhold, halert, himage⟩ :=
    statusWord1_fields (SyncState.code_lt u.timing.sync) (ImageState.code_lt u.image.state) u.inHold u.alertLine
  obtain ⟨hpeer, hheard, hdisabled, hcount⟩ :=
    statusWord6_fields (u.link.learnedPeer.getD 0) u.peerHeard u.linkDisabled u.announcedCount
  refine ⟨t, _, _, _, _, hexec, hanswers, hsync.trans ?_, hhold, halert, himage.trans ?_,
    fun ha hb => bytes_of_fields ha hb, fun ha hb => bytes_of_fields ha hb, hpeer, hheard, hdisabled, hcount⟩
  · cases u.timing.sync <;> rfl
  · cases u.image.state <;> rfl

/-! ## QUERY_FAULTS and QUERY_INDEX (O35) -/

theorem getLsbD_trunkMask_eq_false {i : Nat} (hi : i < 8 ∨ 14 ≤ i) : (0x3F00 : Word).getLsbD i = false := by
  by_cases h16 : i < 16
  · have hall : ∀ i : Fin 16, i.val < 8 ∨ 14 ≤ i.val → (0x3F00 : Word).getLsbD i.val = false := by decide
    exact hall ⟨i, h16⟩ hi
  · exact BitVec.getLsbD_of_ge _ _ (by omega)

/-- The trunk field of a word of QUERY_FAULTS (section 11.8.6). -/
theorem State.trunkField_fields (u : State) (place : Nat) (trunk : Option Port) :
    (∀ i < 8, (u.trunkField place trunk).getLsbD i = false) ∧
      (u.trunkField place trunk).getLsbD 14 = trunk.isSome ∧ (u.trunkField place trunk).getLsbD 15 = false ∧
      ∀ p, trunk = some p → ∀ i < 6, (u.trunkField place trunk).getLsbD (8 + i) = p.val.testBit i := by
  cases trunk with
  | none =>
    have hbit (i : Nat) (hi : i < 8 ∨ 14 ≤ i) : (u.trunkField place none).getLsbD i = false := by
      rw [State.trunkField, State.absentWord, BitVec.getLsbD_and, getLsbD_trunkMask_eq_false hi, Bool.and_false]
    exact ⟨fun i hi => hbit i (.inl hi), hbit 14 (by omega), hbit 15 (by omega), nofun⟩
  | some p =>
    have hp : p.val < 2 ^ 6 := p.isLt
    have hbit (i : Nat) : (u.trunkField place (some p)).getLsbD i = ((fieldAt p.val 8).getLsbD i || (i = 14 : Bool)) := by
      rw [State.trunkField, BitVec.getLsbD_or, getLsbD_flagBit _ (by omega), Bool.true_and]
    have hfield {i : Nat} (hi : i < 8 ∨ 14 ≤ i) : (fieldAt p.val 8).getLsbD i = false :=
      getLsbD_fieldAt_outside hp hi
    refine ⟨fun i hi => ?_, ?_, ?_, ?_⟩
    · have h14 : i ≠ 14 := by omega
      rw [hbit, hfield (.inl hi)]
      simp [h14]
    · rw [hbit, hfield (by omega)]
      simp
    · rw [hbit, hfield (by omega)]
      simp
    · rintro q hq i hi
      obtain rfl := Option.some.inj hq
      have h14 : 8 + i ≠ 14 := by omega
      rw [hbit, getLsbD_fieldAt_inside _ (by omega)]
      simp [h14]

/-- The words of a source stand in number order (R204). -/
theorem State.faultWords_source (u : State) (src : FaultSource) :
    u.faultWords[2 * src.number - 2]? = some (fieldAt (u.source src).count 0 |||
        u.trunkField (2 * src.number - 1) (u.source src).lastTrunk ||| flagBit (u.source src).sticky 15) ∧
      u.faultWords[2 * src.number - 1]? =
        some ((u.source src).cls.code.setWidth 16 ||| flagBit (u.source src).mask 2) := by
  cases src <;> exact ⟨rfl, rfl⟩

theorem State.faultWords_first (u : State) (i : Nat) : u.faultWords[32 + i]? = u.firstFaultWords[i]? := by
  have hlength : (FaultSource.all.flatMap u.sourceWords).length = 32 := rfl
  rw [State.faultWords, List.getElem?_append_right (by omega), hlength, Nat.add_sub_cancel_left]

theorem State.faultWords_length (u : State) : u.faultWords.length = 34 := by
  have hlength : (FaultSource.all.flatMap u.sourceWords).length = 32 := rfl
  rw [State.faultWords, List.length_append, hlength]
  cases hf : u.faults.first <;> simp [State.firstFaultWords, hf]

/-- Word 1 of a source (section 11.8.6). -/
theorem State.sourceWord_fields (u : State) {count : Nat} (hcount : count < 2 ^ 8) (place : Nat) (trunk : Option Port)
    (sticky : Bool) :
    let w := fieldAt count 0 ||| u.trunkField place trunk ||| flagBit sticky 15
    (lowByte w).toNat = count ∧ w.getLsbD 15 = sticky ∧ w.getLsbD 14 = trunk.isSome ∧
      ∀ p, trunk = some p → (w.extractLsb' 8 6).toNat = p.val := by
  intro w
  obtain ⟨hlow, h14, h15, hport⟩ := u.trunkField_fields place trunk
  have hbit (i : Nat) : w.getLsbD i =
      ((fieldAt count 0).getLsbD i || (u.trunkField place trunk).getLsbD i || (sticky && i = 15)) := by
    simp only [w, BitVec.getLsbD_or, getLsbD_flagBit _ (show 15 < 16 by omega)]
  have hfield {i : Nat} (hi : 8 ≤ i) : (fieldAt count 0).getLsbD i = false :=
    getLsbD_fieldAt_outside hcount (.inr (by omega))
  refine ⟨extractLsb'_toNat_of_bits hcount fun i hi => ?_, ?_, ?_, fun p hp =>
    extractLsb'_toNat_of_bits p.isLt fun i hi => ?_⟩
  · have hne : i ≠ 15 := by omega
    rw [hbit, hlow _ (by omega), getLsbD_fieldAt_inside count (by omega)]
    simp [hne]
  · rw [hbit, hfield (by omega), h15]
    simp
  · rw [hbit, hfield (by omega), h14]
    simp
  · have hne : 8 + i ≠ 15 := by omega
    rw [hbit, hfield (by omega), hport p hp i hi]
    simp [hne]

/-- Word 2 of a source (section 11.8.6). -/
theorem classWord_fields (cls : FaultClass) (mask : Bool) :
    let w := cls.code.setWidth 16 ||| flagBit mask 2
    (w.extractLsb' 0 2).toNat = (match cls with | .record => 0 | .alert => 1 | .hold => 2 | .fallback => 3) ∧
      w.getLsbD 2 = mask := by
  cases cls <;> cases mask <;> decide

/-- Word 33 of QUERY_FAULTS with a first fault (section 11.8.6). -/
theorem State.firstWord_fields (u : State) {number : Nat} (hnumber : number < 2 ^ 5) (place : Nat)
    (trunk : Option Port) :
    let w := fieldAt number 0 ||| u.trunkField place trunk
    (w.extractLsb' 0 5).toNat = number ∧ w.getLsbD 14 = trunk.isSome ∧
      ∀ p, trunk = some p → (w.extractLsb' 8 6).toNat = p.val := by
  intro w
  obtain ⟨hlow, h14, -, hport⟩ := u.trunkField_fields place trunk
  have hbit (i : Nat) : w.getLsbD i = ((fieldAt number 0).getLsbD i || (u.trunkField place trunk).getLsbD i) := by
    simp only [w, BitVec.getLsbD_or]
  have hfield {i : Nat} (hi : 5 ≤ i) : (fieldAt number 0).getLsbD i = false :=
    getLsbD_fieldAt_outside hnumber (.inr (by omega))
  refine ⟨extractLsb'_toNat_of_bits hnumber fun i hi => ?_, ?_, fun p hp =>
    extractLsb'_toNat_of_bits p.isLt fun i hi => ?_⟩
  · rw [hbit, hlow _ (by omega), getLsbD_fieldAt_inside number (by omega), Bool.or_false]
  · rw [hbit, hfield (by omega), h14, Bool.false_or]
  · rw [hbit, hfield (by omega), hport p hp i hi, Bool.false_or]

theorem indexWords_length (l : List Link) : (indexWords l).length = min 64 l.length := by
  unfold indexWords
  dsimp only
  split <;> simp
  omega

/-- The last word of 64 marked. -/
theorem getElem?_markLast {ws : List Word} (f : Word → Word) (h : 63 ≤ ws.length) (i : Nat) :
    (ws.take 63 ++ (ws.drop 63).map f)[i]? = if i < 63 then ws[i]? else ws[i]?.map f := by
  have hlength : (ws.take 63).length = 63 := by rw [List.length_take]; omega
  by_cases hi : i < 63
  · rw [if_pos hi, List.getElem?_append_left (by omega), List.getElem?_take_of_lt hi]
  · rw [if_neg hi, List.getElem?_append_right (by omega), hlength, List.getElem?_map, List.getElem?_drop,
      show 63 + (i - 63) = i by omega]

/-- The address words of a talker list (R206). -/
theorem indexWords_getElem? {links : List Link} {i : Nat} {l : Link} (hi : i < 64) (hl : links[i]? = some l) :
    (indexWords links)[i]? =
      some (if i = 63 ∧ 64 < links.length then l.listener.setWidth 16 ||| 0x8000 else l.listener.setWidth 16) := by
  have haddress : ((links.take 64).map (fun k : Link => k.listener.setWidth 16))[i]? = some (l.listener.setWidth 16) := by
    rw [List.getElem?_map, List.getElem?_take_of_lt hi, hl]
    rfl
  unfold indexWords
  dsimp only
  by_cases hmore : 64 < links.length
  · rw [if_pos hmore, getElem?_markLast _ (by rw [List.length_map, List.length_take]; omega), haddress]
    by_cases h63 : i = 63
    · rw [if_neg (by omega), if_pos ⟨h63, hmore⟩]
      rfl
    · rw [if_pos (by omega), if_neg (fun h => h63 h.1)]
  · rw [if_neg hmore, if_neg (fun h => hmore h.2), haddress]

/-- Settles O35. -/
theorem queryFaultsAndQueryIndexReport : Obligations.QueryFaultsAndQueryIndexReport := by
  refine ⟨fun s target params h hp => ?_, fun s target params p h hp => ?_⟩
  · intro u
    obtain ⟨t, hexec, hanswers⟩ := State.answers_device h (by simp) (by simp) rfl hp
    refine ⟨t, u.faultWords, hexec, hanswers, u.faultWords_length, fun src => ?_, ?_⟩
    · obtain ⟨hw, hc⟩ := u.faultWords_source src
      obtain ⟨hcls, hmask⟩ := classWord_fields (u.source src).cls (u.source src).mask
      exact ⟨_, _, hw, hc, fun hcount => u.sourceWord_fields (by omega) _ _ _, hcls, hmask⟩
    · have hw := u.faultWords_first 0
      have hm := u.faultWords_first 1
      cases hf : u.faults.first with
      | none =>
        simp only [State.firstFaultWords, hf] at hw hm
        refine ⟨_, _, hw, hm, fun _ => ?_, nofun⟩
        obtain ⟨hlow, -⟩ := u.trunkField_fields 33 none
        refine extractLsb'_toNat_of_bits (by omega) fun i hi => ?_
        rw [hlow _ (by omega), Nat.zero_testBit]
      | some ff =>
        simp only [State.firstFaultWords, hf] at hw hm
        refine ⟨_, _, hw, hm, nofun, ?_⟩
        rintro ff' hff
        obtain rfl := Option.some.inj hff
        have hnumber : ff.source.number < 2 ^ 5 := by unfold FaultSource.number; omega
        obtain ⟨hsource, htrunk, hport⟩ := u.firstWord_fields hnumber 33 ff.trunk
        exact ⟨hsource, htrunk, hport, rfl⟩
  · intro u slot
    obtain ⟨t, hexec, hanswers⟩ := State.answers_copper h (by simp) (by simp) rfl hp
    refine ⟨t, hexec, fun hbad => ?_, fun k hk => ?_⟩
    · have hslot : ¬ (parameter params 0).toNat < 32 := by omega
      simp only [Machine.queryIndex, hslot, dite_false] at hanswers
      exact hanswers
    · have hslot : (parameter params 0).toNat < 32 := by omega
      intro links
      simp only [Machine.queryIndex, hslot, dite_true] at hanswers
      have hkk : (⟨(parameter params 0).toNat, hslot⟩ : Slot) = k := Fin.ext hk
      rw [hkk] at hanswers
      exact ⟨_, hanswers, indexWords_length links, fun i l hi hl => indexWords_getElem? hi hl⟩

end Sys2Proof.Machine
end

section
/-! SUPPORT. QUERY_TRUNK (O34): the bits of the words of section 11.8.5. -/

namespace Sys2Proof.Machine

variable {u v t : State}

/-! ## Words laid out of fields and flags -/

/-- A flag is not seen at another bit. -/
theorem and_decide_eq_false (b : Bool) {i j : Nat} (h : i ≠ j) : (b && decide (i = j)) = false := by
  simp [h]

/-- A flag is seen at its bit. -/
theorem and_decide_self (b : Bool) (i : Nat) : (b && decide (i = i)) = b := by simp

theorem getLsbD_setWidth_outside {n : Nat} (c : BitVec n) {i : Nat} (hi : n ≤ i) :
    (c.setWidth 16).getLsbD i = false := by
  rw [BitVec.getLsbD_setWidth, BitVec.getLsbD_of_ge c i hi, Bool.and_false]

theorem getLsbD_setWidth_inside {n : Nat} (c : BitVec n) {i : Nat} (hi : i < 16) :
    (c.setWidth 16).getLsbD i = c.getLsbD i := by
  simp [hi]

/-- A code at the low end of a word is read back. -/
theorem extractLsb'_toNat_of_code {w : Word} {n : Nat} {c : BitVec n} (h : ∀ i < n, w.getLsbD i = c.getLsbD i) :
    (w.extractLsb' 0 n).toNat = c.toNat :=
  congrArg BitVec.toNat (extractLsb'_eq_of_bits fun i hi => by rw [Nat.zero_add, h i hi])

theorem Lock.code_lt (x : Lock) : x.code < 2 ^ 2 := by cases x <;> decide

theorem undoCode_lt (x : Option UndoTarget) : undoCode x < 2 ^ 2 := by
  rcases x with _ | _ | _ <;> decide

/-! ## The words of a record -/

/-- Word 1 of QUERY_TRUNK, bit by bit (section 11.8.5). -/
theorem TrunkRecord.getLsbD_flagsWord (r : TrunkRecord) (i : Nat) :
    r.flagsWord.getLsbD i = ((r.phase.code.setWidth 16).getLsbD i || (fieldAt r.lock.code 4).getLsbD i
      || (r.boundFlag Binding.prepared && i = 6) || (r.commit && i = 7) || (r.boundFlag Binding.fibreAlarm && i = 8)
      || (r.indexLost && i = 9) || (r.lingering && i = 10) || (r.autoLead.isSome && i = 11)
      || (r.rollRequest.isSome && i = 12) || (r.releaseRequest && i = 13)
      || (fieldAt (undoCode r.undo) 14).getLsbD i) := by
  simp (disch := omega) only [TrunkRecord.flagsWord, BitVec.getLsbD_or, getLsbD_flagBit]

/-- The fields of word 1 of QUERY_TRUNK. -/
theorem TrunkRecord.flagsWord_fields (r : TrunkRecord) :
    (r.flagsWord.extractLsb' 0 4).toNat = r.phase.code.toNat ∧ (r.flagsWord.extractLsb' 4 2).toNat = r.lock.code ∧
      (r.flagsWord.getLsbD 6 = r.boundFlag Binding.prepared ∧
        r.flagsWord.getLsbD 8 = r.boundFlag Binding.fibreAlarm) ∧
      r.flagsWord.getLsbD 7 = r.commit ∧ r.flagsWord.getLsbD 9 = r.indexLost ∧
      r.flagsWord.getLsbD 10 = r.lingering ∧ r.flagsWord.getLsbD 11 = r.autoLead.isSome ∧
      r.flagsWord.getLsbD 12 = r.rollRequest.isSome ∧ r.flagsWord.getLsbD 13 = r.releaseRequest ∧
      (r.flagsWord.extractLsb' 14 2).toNat = undoCode r.undo := by
  have hphase {i : Nat} (hi : 4 ≤ i) : (r.phase.code.setWidth 16).getLsbD i = false :=
    getLsbD_setWidth_outside _ hi
  have hlock {i : Nat} (hi : i < 4 ∨ 4 + 2 ≤ i) : (fieldAt r.lock.code 4).getLsbD i = false :=
    getLsbD_fieldAt_outside r.lock.code_lt hi
  have hundo {i : Nat} (hi : i < 14) : (fieldAt (undoCode r.undo) 14).getLsbD i = false :=
    getLsbD_fieldAt_outside (undoCode_lt r.undo) (.inl hi)
  have hflags {i : Nat} (hi : 6 ≤ i) (hi' : i < 14) : r.flagsWord.getLsbD i =
      ((r.boundFlag Binding.prepared && i = 6) || (r.commit && i = 7) || (r.boundFlag Binding.fibreAlarm && i = 8)
        || (r.indexLost && i = 9) || (r.lingering && i = 10) || (r.autoLead.isSome && i = 11)
        || (r.rollRequest.isSome && i = 12) || (r.releaseRequest && i = 13)) := by
    rw [r.getLsbD_flagsWord, hphase (by omega), hlock (by omega), hundo (by omega)]
    simp only [Bool.false_or, Bool.or_false]
  refine ⟨extractLsb'_toNat_of_code fun i hi => ?_, extractLsb'_toNat_of_bits r.lock.code_lt fun i hi => ?_, ⟨?_, ?_⟩,
    ?_, ?_, ?_, ?_, ?_, ?_, extractLsb'_toNat_of_bits (undoCode_lt r.undo) fun i hi => ?_⟩
  · rw [r.getLsbD_flagsWord, hlock (.inl hi), hundo (by omega), getLsbD_setWidth_inside _ (by omega)]
    simp (disch := omega) only [and_decide_eq_false, Bool.or_false]
  · rw [r.getLsbD_flagsWord, hphase (by omega), hundo (by omega), getLsbD_fieldAt_inside _ (by omega)]
    simp (disch := omega) only [and_decide_eq_false, Bool.or_false, Bool.false_or]
  · rw [hflags (by omega) (by omega)]; simp
  · rw [hflags (by omega) (by omega)]; simp
  · rw [hflags (by omega) (by omega)]; simp
  · rw [hflags (by omega) (by omega)]; simp
  · rw [hflags (by omega) (by omega)]; simp
  · rw [hflags (by omega) (by omega)]; simp
  · rw [hflags (by omega) (by omega)]; simp
  · rw [hflags (by omega) (by omega)]; simp
  · rw [r.getLsbD_flagsWord, hphase (by omega), hlock (by omega), getLsbD_fieldAt_inside _ (by omega)]
    simp (disch := omega) only [and_decide_eq_false, Bool.false_or]

/-- The nibble of a place of the group list: its number, or Fh (section 11.8.5). -/
def groupNibble (gs : List (Fin 7)) (i : Nat) : Nat :=
  match gs[i]? with
  | some g => g.val
  | none => 15

theorem groupNibble_lt (gs : List (Fin 7)) (i : Nat) : groupNibble gs i < 2 ^ 4 := by
  cases h : gs[i]? with
  | none => simp [groupNibble, h]
  | some g => simp only [groupNibble, h]; omega

theorem groupsWord_eq (gs : List (Fin 7)) :
    groupsWord gs = (fieldAt (groupNibble gs 0) 0 ||| fieldAt (groupNibble gs 1) 4 ||| fieldAt (groupNibble gs 2) 8 |||
      fieldAt (groupNibble gs 3) 12) := rfl

/-- The nibbles of word 5 of QUERY_TRUNK. -/
theorem groupsWord_nibble (gs : List (Fin 7)) {i : Nat} (hi : i < 4) :
    ((groupsWord gs).extractLsb' (4 * i) 4).toNat = groupNibble gs i := by
  refine extractLsb'_toNat_of_bits (groupNibble_lt gs i) fun j hj => ?_
  have houtside {k : Nat} (hk : k ≠ i) : (fieldAt (groupNibble gs k) (4 * k)).getLsbD (4 * i + j) = false :=
    getLsbD_fieldAt_outside (groupNibble_lt gs k) (by omega)
  have hinside : (fieldAt (groupNibble gs i) (4 * i)).getLsbD (4 * i + j) = (groupNibble gs i).testBit j :=
    getLsbD_fieldAt_inside _ (by omega)
  have hall (k : Nat) : (fieldAt (groupNibble gs k) (4 * k)).getLsbD (4 * i + j) =
      (decide (k = i) && (groupNibble gs i).testBit j) := by
    by_cases hk : k = i
    · rw [hk, hinside]; simp
    · rw [houtside hk]; simp [hk]
  rw [groupsWord_eq]
  simp only [BitVec.getLsbD_or]
  rw [hall 0, hall 1, hall 2, hall 3]
  obtain rfl | rfl | rfl | rfl : i = 0 ∨ i = 1 ∨ i = 2 ∨ i = 3 := by omega
  all_goals simp

/-! ## The sweep word -/

theorem State.executesFor_iff (s : State) (p : Port) :
    s.executesFor p = true ↔ ∃ e, s.executing = some e ∧ e.trunk = p := by
  cases h : s.executing with
  | none => simp [State.executesFor, h]
  | some e => simp [State.executesFor, h]

theorem Sweep.scanning_iff (sw : Sweep) : sw.scanning = true ↔ ∃ second n, sw.cursor = .scan second n := by
  cases h : sw.cursor <;> simp [Sweep.scanning, h]

theorem Sweep.modePresent_iff (sw : Sweep) :
    sw.modePresent = true ↔ (∃ second n, sw.cursor = .scan second n) ∨ ∃ c, sw.cursor = .index c := by
  cases h : sw.cursor <;> simp [Sweep.modePresent, h]

/-- Bits 0 to 5 of word 13 of QUERY_TRUNK. -/
def State.sweepPart (s : State) (p : Port) : Word :=
  match s.sweepNow p with
  | none => 0
  | some sw =>
    sw.kind.code.setWidth 16 ||| flagBit (s.executesFor p) 3 ||| flagBit sw.scanning 4 ||| flagBit sw.modePresent 5

theorem State.sweepWord_eq (s : State) (p : Port) :
    s.sweepWord p = (s.sweepPart p ||| flagBit (s.trunk p).rollStart.isSome 8 ||| flagBit (s.trunk p).epoch.isSome 9 |||
      flagBit (s.trunk p).soak.isSome 10 ||| flagBit (s.trunk p).binding.isSome 11) := rfl

/-- Word 13 of QUERY_TRUNK, bit by bit. -/
theorem State.getLsbD_sweepWord (s : State) (p : Port) (i : Nat) :
    (s.sweepWord p).getLsbD i = ((s.sweepPart p).getLsbD i || ((s.trunk p).rollStart.isSome && i = 8)
      || ((s.trunk p).epoch.isSome && i = 9) || ((s.trunk p).soak.isSome && i = 10)
      || ((s.trunk p).binding.isSome && i = 11)) := by
  simp (disch := omega) only [State.sweepWord_eq, BitVec.getLsbD_or, getLsbD_flagBit]

theorem State.sweepPart_of_sweep {s : State} {p : Port} {sw : Sweep} (h : s.sweepNow p = some sw) (i : Nat) :
    (s.sweepPart p).getLsbD i = ((sw.kind.code.setWidth 16).getLsbD i || (s.executesFor p && i = 3)
      || (sw.scanning && i = 4) || (sw.modePresent && i = 5)) := by
  simp (disch := omega) only [State.sweepPart, h, BitVec.getLsbD_or, getLsbD_flagBit]

theorem State.sweepPart_of_none {s : State} {p : Port} (h : s.sweepNow p = none) : s.sweepPart p = 0 := by
  simp only [State.sweepPart, h]

/-- The sweep part does not reach the presence marks. -/
theorem State.getLsbD_sweepPart_outside (s : State) (p : Port) {i : Nat} (hi : 6 ≤ i) :
    (s.sweepPart p).getLsbD i = false := by
  cases h : s.sweepNow p with
  | none => rw [State.sweepPart_of_none h]; simp
  | some sw =>
    rw [State.sweepPart_of_sweep h, getLsbD_setWidth_outside _ (by omega)]
    simp (disch := omega) only [and_decide_eq_false, Bool.or_false]

/-- The presence marks of word 13 of QUERY_TRUNK. -/
theorem State.sweepWord_marks (s : State) (p : Port) :
    (s.sweepWord p).getLsbD 8 = (s.trunk p).rollStart.isSome ∧ (s.sweepWord p).getLsbD 9 = (s.trunk p).epoch.isSome ∧
      (s.sweepWord p).getLsbD 10 = (s.trunk p).soak.isSome ∧
      (s.sweepWord p).getLsbD 11 = (s.trunk p).binding.isSome := by
  refine ⟨?_, ?_, ?_, ?_⟩ <;> rw [s.getLsbD_sweepWord, s.getLsbD_sweepPart_outside p (by omega)] <;> simp

/-- The sweep fields of word 13 of QUERY_TRUNK. -/
theorem State.sweepWord_of_sweep {s : State} {p : Port} {sw : Sweep} (h : s.sweepNow p = some sw) :
    ((s.sweepWord p).extractLsb' 0 3).toNat = sw.kind.code.toNat ∧ (s.sweepWord p).getLsbD 3 = s.executesFor p ∧
      (s.sweepWord p).getLsbD 4 = sw.scanning ∧ (s.sweepWord p).getLsbD 5 = sw.modePresent := by
  have hkind {i : Nat} (hi : 3 ≤ i) : (sw.kind.code.setWidth 16).getLsbD i = false := getLsbD_setWidth_outside _ hi
  refine ⟨extractLsb'_toNat_of_code fun i hi => ?_, ?_, ?_, ?_⟩
  · rw [s.getLsbD_sweepWord, State.sweepPart_of_sweep h, getLsbD_setWidth_inside _ (by omega)]
    simp (disch := omega) only [and_decide_eq_false, Bool.or_false]
  all_goals
    rw [s.getLsbD_sweepWord, State.sweepPart_of_sweep h, hkind (by omega)]
    simp

theorem State.sweepWord_of_none {s : State} {p : Port} (h : s.sweepNow p = none) :
    ((s.sweepWord p).extractLsb' 0 6).toNat = 0 := by
  refine extractLsb'_toNat_of_bits (by omega) fun i hi => ?_
  rw [s.getLsbD_sweepWord, State.sweepPart_of_none h, Nat.zero_testBit, Nat.zero_add]
  simp (disch := omega) only [and_decide_eq_false, Bool.or_false]
  simp

/-! ## The view word -/

/-- Word 15 of QUERY_TRUNK with a view entry. -/
theorem State.viewWord_of_view {s : State} {p : Port} {v : PeerView} (h : s.view p = some v) :
    let w := s.viewWord p
    (w.extractLsb' 0 4).toNat = v.phase.code.toNat ∧ w.getLsbD 4 = v.commit ∧ w.getLsbD 5 = v.alarm ∧
      w.getLsbD 6 = v.peerReleased ∧ w.getLsbD 7 = s.peerHeard ∧ w.getLsbD 8 = true ∧ w.getLsbD 9 = v.digest.isSome ∧
      w.getLsbD 10 = v.heardAt.isSome := by
  intro w
  have hbit (i : Nat) : w.getLsbD i = ((v.phase.code.setWidth 16).getLsbD i || (v.commit && i = 4) || (v.alarm && i = 5)
      || (v.peerReleased && i = 6) || (s.peerHeard && i = 7) || (true && decide (i = 8))
      || (v.digest.isSome && i = 9) || (v.heardAt.isSome && i = 10)) := by
    simp (disch := omega) only [w, State.viewWord, h, BitVec.getLsbD_or, getLsbD_flagBit]
  have hphase {i : Nat} (hi : 4 ≤ i) : (v.phase.code.setWidth 16).getLsbD i = false := getLsbD_setWidth_outside _ hi
  refine ⟨extractLsb'_toNat_of_code fun i hi => ?_, ?_, ?_, ?_, ?_, ?_, ?_, ?_⟩
  · rw [hbit, getLsbD_setWidth_inside _ (by omega)]
    simp (disch := omega) only [and_decide_eq_false, Bool.or_false]
  all_goals
    rw [hbit, hphase (by omega)]
    simp

theorem State.viewWord_of_none {s : State} {p : Port} (h : s.view p = none) : (s.viewWord p).getLsbD 8 = false := by
  simp only [State.viewWord, h, State.absentWord, BitVec.getLsbD_and]
  rw [show (0x000F : Word).getLsbD 8 = false by decide, Bool.and_false]

/-! ## QUERY_TRUNK (O34) -/

/-- Settles O34. -/
theorem queryTrunkReportsTheRecord : Obligations.QueryTrunkReportsTheRecord := by
  intro s target params p h hp u r code
  obtain ⟨t, hexec, hanswers⟩ := State.answers_copper h (by simp) (by simp) rfl hp
  have hcode (ph : Phase) : ph.code.toNat = code ph := by cases ph <;> rfl
  obtain ⟨hphase, hlock, hbound, hcommit, hlost, hlinger, hauto, hroll, hrelease, hundo⟩ := r.flagsWord_fields
  obtain ⟨hstart, hepoch, hsoak, hbinding⟩ := u.sweepWord_marks p
  refine ⟨t, u.trunkWords p, hexec, hanswers, rfl, ?_, ?_, ?_, ?_, rfl, rfl, ?_, ?_, ?_, rfl, ?_, ?_, ?_, ?_, ?_, ?_⟩
  case refine_1 =>
    refine ⟨_, rfl, hphase.trans (hcode _), hlock.trans ?_, fun b hb => ?_, hcommit, hlost, hlinger, hauto, hroll,
      hrelease, hundo.trans ?_⟩
    · cases r.lock <;> rfl
    · simp only [TrunkRecord.boundFlag, hb] at hbound
      exact hbound
    · rcases r.undo with _ | _ | _ <;> rfl
  case refine_2 =>
    intro b hb
    change (u.trunk p).binding = some b at hb
    simp [State.trunkWords, TrunkRecord.bound, hb, numberWord]
  case refine_3 =>
    intro hb
    change (u.trunk p).binding = none at hb
    simp [State.trunkWords, TrunkRecord.bound, hb]
  case refine_4 => exact ⟨_, rfl, fun i hi => groupsWord_nibble _ hi⟩
  case refine_5 =>
    intro e he
    change (u.trunk p).epoch = some e at he
    simp [State.trunkWords, he]
  case refine_6 =>
    intro m hm
    change (u.trunk p).rollStart = some m at hm
    simp [State.trunkWords, hm]
  case refine_7 =>
    intro n hn
    change (u.trunk p).soak = some n at hn
    simp [State.trunkWords, hn, numberWord]
  case refine_8 =>
    refine ⟨_, rfl, fun sw hsw => ?_, fun hnone => State.sweepWord_of_none (by simp [State.sweepNow, hnone]), hstart,
      hepoch, hsoak, hbinding⟩
    have hnow : u.sweepNow p = some (if u.executesFor p then u.begun sw else sw) := by simp [State.sweepNow, hsw]
    obtain ⟨hkind, hexecutes, hscan, hmode⟩ := State.sweepWord_of_sweep hnow
    have hsame : (if u.executesFor p then u.begun sw else sw).kind = sw.kind := by
      split
      · exact State.begun_kind u sw
      · rfl
    rw [hsame] at hkind
    refine ⟨hkind.trans (by cases sw.kind <;> rfl), by rw [hexecutes, State.executesFor_iff],
      if u.executesFor p then u.begun sw else sw, ?_, ?_, ?_⟩
    · rw [hexecutes, State.executes_eq]
    · rw [hscan, Sweep.scanning_iff]
    · rw [hmode, Sweep.modePresent_iff]
  case refine_9 =>
    intro sw hsw
    simp [State.trunkWords, hsw, numberWord]
  case refine_10 =>
    intro hnone
    simp [State.trunkWords, hnone]
  case refine_11 =>
    refine ⟨_, rfl, ?_, fun v hv => ?_⟩
    · cases hv : u.view p with
      | none => exact State.viewWord_of_none hv
      | some v =>
        obtain ⟨-, -, -, -, -, hpresent, -⟩ := State.viewWord_of_view hv
        exact hpresent
    · obtain ⟨hph, hc, ha, hpr, hheard, -, hd, hat⟩ := State.viewWord_of_view hv
      exact ⟨hph.trans (by cases hvp : v.phase <;> simp [PeerPhase.code, hcode]), hc, ha, hpr, hheard, hd, hat⟩
  case refine_12 =>
    intro v d hv hd
    simp [State.trunkWords, hv, hd]
  case refine_13 =>
    intro v m hv hm
    simp [State.trunkWords, hv, hm]

end Sys2Proof.Machine
end

section
/-! SUPPORT. The map digest (O13). -/

namespace Sys2Proof.Machine

/-! ## Sums over the slots -/

/-- The sum of a function over the 32 slots. -/
def slotSum (f : Slot → Int) : Int := (allSlots.map f).sum

theorem sum_map_add (l : List Slot) (f g : Slot → Int) :
    (l.map (fun k => f k + g k)).sum = (l.map f).sum + (l.map g).sum := by
  induction l with
  | nil => rfl
  | cons k l ih =>
    simp only [List.map_cons, List.sum_cons, ih]
    omega

theorem slotSum_add (f g : Slot → Int) : slotSum (fun k => f k + g k) = slotSum f + slotSum g :=
  sum_map_add allSlots f g

theorem sum_map_mul (l : List Slot) (c : Int) (f : Slot → Int) :
    (l.map (fun k => c * f k)).sum = c * (l.map f).sum := by
  induction l with
  | nil => simp
  | cons k l ih => simp only [List.map_cons, List.sum_cons, ih, Int.mul_add]

theorem slotSum_mul (c : Int) (f : Slot → Int) : slotSum (fun k => c * f k) = c * slotSum f :=
  sum_map_mul allSlots c f

theorem sum_map_nonneg {l : List Slot} {f : Slot → Int} (h : ∀ k, 0 ≤ f k) : 0 ≤ (l.map f).sum := by
  induction l with
  | nil => exact Int.le_refl 0
  | cons k l ih =>
    have hk := h k
    simp only [List.map_cons, List.sum_cons]
    omega

theorem sum_map_eq_zero {l : List Slot} {f : Slot → Int} (h : ∀ k ∈ l, f k = 0) : (l.map f).sum = 0 := by
  induction l with
  | nil => rfl
  | cons k l ih =>
    rw [List.map_cons, List.sum_cons, h k List.mem_cons_self, ih fun k hk => h k (List.mem_cons_of_mem _ hk)]
    rfl

theorem sum_map_perm {l l' : List Slot} (h : l.Perm l') (f : Slot → Int) : (l.map f).sum = (l'.map f).sum := by
  induction h with
  | nil => rfl
  | cons k _ ih => simp only [List.map_cons, List.sum_cons, ih]
  | swap k k' l =>
    simp only [List.map_cons, List.sum_cons]
    omega
  | trans _ _ ih ih' => exact ih.trans ih'

/-- A term taken out of a sum. -/
theorem sum_map_erase {l : List Slot} {a : Slot} (ha : a ∈ l) (f : Slot → Int) :
    (l.map f).sum = f a + ((l.erase a).map f).sum :=
  sum_map_perm (List.perm_cons_erase ha) f

/-- A term is no more than a sum of terms that are not negative. -/
theorem le_slotSum {f : Slot → Int} (h : ∀ k, 0 ≤ f k) (a : Slot) : f a ≤ slotSum f := by
  have hrest : 0 ≤ ((allSlots.erase a).map f).sum := sum_map_nonneg h
  have hsplit : slotSum f = f a + ((allSlots.erase a).map f).sum := sum_map_erase (List.mem_finRange a) f
  omega

/-- A sum in which two terms alone are not 0. -/
theorem slotSum_eq_add {f : Slot → Int} {a b : Slot} (hab : a ≠ b) (h : ∀ k, k ≠ a → k ≠ b → f k = 0) :
    slotSum f = f a + f b := by
  have hnodup : allSlots.Nodup := List.nodup_finRange 32
  have hb : b ∈ allSlots.erase a := (List.mem_erase_of_ne hab.symm).mpr (List.mem_finRange b)
  have hrest : (((allSlots.erase a).erase b).map f).sum = 0 := sum_map_eq_zero fun k hk => by
    have hk' := (hnodup.erase a).mem_erase_iff.mp hk
    exact h k (hnodup.mem_erase_iff.mp hk'.2).1 hk'.1
  have ha : a ∈ allSlots := List.mem_finRange a
  rw [slotSum, sum_map_erase ha, sum_map_erase hb, hrest, Int.add_zero]

/-! ## The digest as a sum (R10) -/

theorem foldl_add_eq_sum (l : List Slot) (g : Slot → Nat) (n : Nat) :
    ((l.foldl (fun sum k => sum + g k) n : Nat) : Int) = n + (l.map (fun k => (g k : Int))).sum := by
  induction l generalizing n with
  | nil => simp
  | cons k l ih =>
    simp only [List.foldl_cons, ih, List.map_cons, List.sum_cons]
    omega

/-- The digest is a sum over the slots (R10). -/
theorem mapDigest_eq_sum (m : ChannelMap) :
    (mapDigest m : Int) = slotSum (fun k => ((k.val : Int) + 1) * ((m[k].val : Int) + 1)) := by
  have hsum := foldl_add_eq_sum allSlots (fun k => (k.val + 1) * (m[k].val + 1)) 0
  rw [Int.natCast_zero, Int.zero_add] at hsum
  exact hsum

/-- A valid map permutes the slots (R8). -/
theorem validMap_injective {m : ChannelMap} (h : validMap m = true) {a b : Slot} (hab : m[a] = m[b]) : a = b := by
  simp only [validMap, Bool.and_eq_true, List.all_eq_true, Bool.or_eq_true, decide_eq_true_eq, bne_iff_ne] at h
  obtain ⟨-, hpairs⟩ := h
  exact (hpairs a (List.mem_finRange a) b (List.mem_finRange b)).resolve_right (fun hne => hne hab)

theorem validMap_framing {m : ChannelMap} (h : validMap m = true) : m[framingSlot] = framingSlot := by
  simp only [validMap, Bool.and_eq_true, decide_eq_true_eq] at h
  exact h.1.1

/-- A list without repetition that lies in another of no greater length is that other, in some order. -/
theorem perm_of_nodup_of_length_le {l l' : List Slot} (h : l.Nodup) (hsub : ∀ k ∈ l, k ∈ l')
    (hlength : l'.length ≤ l.length) : l.Perm l' := by
  induction l generalizing l' with
  | nil => rw [List.eq_nil_of_length_eq_zero (Nat.le_zero.mp hlength)]
  | cons a l ih =>
    obtain ⟨ha, hnodup⟩ := List.nodup_cons.mp h
    have hmem : a ∈ l' := hsub a List.mem_cons_self
    have hrest : l.Perm (l'.erase a) := by
      refine ih hnodup (fun k hk => ?_) ?_
      · exact (List.mem_erase_of_ne (by rintro rfl; exact ha hk)).mpr (hsub k (List.mem_cons_of_mem _ hk))
      · rw [List.length_erase_of_mem hmem]
        rw [List.length_cons] at hlength
        omega
    exact (hrest.cons a).trans (List.perm_cons_erase hmem).symm

/-- A sum over the images of a valid map is the sum over the slots. -/
theorem validMap_sum_comp {m : ChannelMap} (h : validMap m = true) (f : Slot → Int) :
    slotSum (fun k => f m[k]) = slotSum f := by
  have hnodup : (allSlots.map (fun k => m[k])).Nodup :=
    List.Pairwise.map _ (fun _ _ hne hab => hne (validMap_injective h hab)) (List.nodup_finRange 32)
  have hperm : (allSlots.map (fun k => m[k])).Perm allSlots :=
    perm_of_nodup_of_length_le hnodup (fun k _ => List.mem_finRange k) (by simp)
  have hsum := sum_map_perm hperm f
  rwa [List.map_map] at hsum

/-- The digest falls short of that of the identity map by half the sum of the squares of the displacements. -/
theorem two_mul_mapDigest {m : ChannelMap} (h : validMap m = true) :
    2 * (mapDigest m : Int) = 2 * 11440 - slotSum (fun k => ((k.val : Int) - m[k].val) ^ 2) := by
  have hsquares := validMap_sum_comp h (fun k => ((k.val : Int) + 1) ^ 2)
  have htotal : slotSum (fun k => ((k.val : Int) + 1) ^ 2) = 11440 := by decide
  have hexpand : slotSum (fun k => ((k.val : Int) - m[k].val) ^ 2) =
      slotSum (fun k => ((k.val : Int) + 1) ^ 2) + slotSum (fun k => ((m[k].val : Int) + 1) ^ 2) +
        (-2) * (mapDigest m : Int) := by
    rw [mapDigest_eq_sum, ← slotSum_mul, ← slotSum_add, ← slotSum_add]
    exact congrArg slotSum (funext fun k => by grind)
  omega

/-- The digest exceeds that of the reversing map, k to 32 - k, by half the sum of the squares of the distances
from it; slot 0, which has no place in it, counts for 1024. -/
theorem two_mul_mapDigest_reversed {m : ChannelMap} (h : validMap m = true) :
    2 * (mapDigest m : Int) = 2 * 6480 - 1024 + slotSum (fun k => ((k.val : Int) + m[k].val - 32) ^ 2) := by
  have hsquares := validMap_sum_comp h (fun k => ((k.val : Int) + 1) ^ 2 - 68 * (k.val + 1))
  have htotal : slotSum (fun k => ((k.val : Int) + 1) ^ 2 - 68 * (k.val + 1)) = 11440 - 68 * 528 := by decide
  have hconst : slotSum (fun _ => (34 : Int) ^ 2) = 36992 := by decide
  have hexpand : slotSum (fun k => ((k.val : Int) + m[k].val - 32) ^ 2) =
      slotSum (fun k => ((k.val : Int) + 1) ^ 2 - 68 * (k.val + 1)) +
        slotSum (fun k => ((m[k].val : Int) + 1) ^ 2 - 68 * (m[k].val + 1)) + 2 * (mapDigest m : Int) +
        slotSum (fun _ => 34 ^ 2) := by
    rw [mapDigest_eq_sum, ← slotSum_mul, ← slotSum_add, ← slotSum_add, ← slotSum_add]
    exact congrArg slotSum (funext fun k => by grind)
  omega

/-- Two slots exchanged change two terms of the digest. -/
theorem mapDigest_exchange (m : ChannelMap) {a b : Slot} (hab : a ≠ b) :
    (mapDigest ((m.set a.val m[b] a.isLt).set b.val m[a] b.isLt) : Int) =
      mapDigest m + ((a.val : Int) - b.val) * ((m[b].val : Int) - m[a].val) := by
  have hval : b.val ≠ a.val := fun h => hab (Fin.ext h.symm)
  obtain ⟨n, hn⟩ : ∃ n : ChannelMap, n = (m.set a.val m[b] a.isLt).set b.val m[a] b.isLt := ⟨_, rfl⟩
  rw [← hn]
  have hnb : n[b] = m[a] := by simp [hn]
  have hna : n[a] = m[b] := by simp [hn, hval]
  have hother (k : Slot) (hka : k ≠ a) (hkb : k ≠ b) : n[k] = m[k] := by
    have hka : a.val ≠ k.val := fun h => hka (Fin.ext h.symm)
    have hkb : b.val ≠ k.val := fun h => hkb (Fin.ext h.symm)
    simp [hn, hka, hkb]
  have hchange : (mapDigest n : Int) =
      slotSum (fun k => ((k.val : Int) + 1) * ((n[k].val : Int) - m[k].val)) + mapDigest m := by
    rw [mapDigest_eq_sum, mapDigest_eq_sum, ← slotSum_add]
    exact congrArg slotSum (funext fun k => by grind)
  rw [slotSum_eq_add hab fun k hka hkb => by rw [hother k hka hkb, Int.sub_self, Int.mul_zero], hna, hnb] at hchange
  rw [hchange]
  grind

theorem identityMap_val : ∀ k : Slot, identityMap[k].val = k.val := by decide

/-- Settles O13: the squares of the displacements from the identity map, and from the reversing map, are not
negative, and the first are all 0 for the identity map alone. -/
theorem mapDigestStaysWithinItsBounds : Obligations.MapDigestStaysWithinItsBounds := by
  refine fun m => ⟨fun hvalid => ?_, fun a b hab => mapDigest_exchange m hab⟩
  have hupper := two_mul_mapDigest hvalid
  have hlower := two_mul_mapDigest_reversed hvalid
  have hterm (k : Slot) : ((k.val : Int) - m[k].val) ^ 2 ≤ slotSum (fun k => ((k.val : Int) - m[k].val) ^ 2) :=
    le_slotSum (f := fun k : Slot => ((k.val : Int) - m[k].val) ^ 2) (fun k => Int.sq_nonneg _) k
  have hdisplaced : 0 ≤ slotSum (fun k => ((k.val : Int) - m[k].val) ^ 2) :=
    Int.le_trans (Int.sq_nonneg _) (hterm framingSlot)
  have hframing : (1024 : Int) ≤ slotSum (fun k => ((k.val : Int) + m[k].val - 32) ^ 2) := by
    have hle := le_slotSum (f := fun k : Slot => ((k.val : Int) + m[k].val - 32) ^ 2) (fun k => Int.sq_nonneg _)
      framingSlot
    rw [validMap_framing hvalid] at hle
    exact hle
  refine ⟨by omega, by omega, fun hmax => ?_, fun hm => by rw [hm]; decide⟩
  have hzero : slotSum (fun k => ((k.val : Int) - m[k].val) ^ 2) = 0 := by omega
  refine Vector.ext fun i hi => Fin.ext ?_
  have hsquare : ((i : Int) - m[i].val) ^ 2 = 0 :=
    Int.le_antisymm (hzero ▸ hterm ⟨i, hi⟩) (Int.sq_nonneg _)
  have hsame : (i : Int) - m[i].val = 0 := by
    rw [Int.pow_succ, Int.pow_succ, Int.pow_zero, Int.one_mul] at hsquare
    exact (Int.mul_eq_zero.mp hsquare).elim id id
  have hi' := identityMap_val ⟨i, hi⟩
  simp only [Fin.getElem_fin] at hi'
  omega

end Sys2Proof.Machine
end

section
/-! SUPPORT. Channels, words and translation (O12): the reasoning rules of chapter 1. -/

namespace Sys2Proof.Machine

/-! ## Channels (R1) -/

theorem channelAt_toNat {port : Nat} (h : port < 128) (k : Slot) : (channelAt port k).toNat = port * 32 + k.val := by
  rw [channelAt, BitVec.toNat_ofNat, Nat.mod_eq_of_lt (by omega)]

theorem copperChannel_toNat (p : Port) (k : Slot) : (copperChannel p k).toNat = p.val * 32 + k.val :=
  channelAt_toNat (by omega) k

theorem fibreChannel_toNat (F : FibrePort) (k : Slot) : (fibreChannel F k).toNat = (64 + F.val) * 32 + k.val :=
  channelAt_toNat (by simp only [FibrePort.number]; omega) k

theorem fibreForm_toNat (F : FibrePort) (m : ChannelMap) (k : Slot) :
    (fibreForm F m k).toNat = (64 + F.val) * 32 + m[k].val :=
  fibreChannel_toNat F m[k]

theorem copperForm_toNat (n : Listed) : (copperForm n).toNat = n.toNat := by
  have := n.isLt
  rw [copperForm, BitVec.toNat_setWidth, Nat.mod_eq_of_lt (by omega)]

/-- A physical channel below 2048 is the copper channel of its port and slot. -/
theorem copperPortOf_eq_some_iff {x : Physical} {p : Port} :
    copperPortOf x = some p ↔ x = copperChannel p (physicalSlot x) := by
  have hx := x.isLt
  have hslot : (physicalSlot x).val = x.toNat % 32 := rfl
  rw [BitVec.toNat_eq, copperChannel_toNat, hslot]
  by_cases h : x.toNat < 2048
  · simp only [copperPortOf, h, dite_true, Option.some.injEq, Fin.ext_iff]
    omega
  · simp only [copperPortOf, h, dite_false, reduceCtorEq, false_iff]
    omega

/-- A physical channel of 2048 or above is the fibre channel of its port and slot. -/
theorem physicalFibrePort_eq_some_iff {x : Physical} {F : FibrePort} :
    physicalFibrePort x = some F ↔ x = fibreChannel F (physicalSlot x) := by
  have hx := x.isLt
  have hslot : (physicalSlot x).val = x.toNat % 32 := rfl
  rw [physicalFibrePort, fibrePortOf_eq_some_iff, BitVec.toNat_eq, fibreChannel_toNat, hslot, FibrePort.number]
  omega

theorem copperPortOf_eq_none_iff {x : Physical} : copperPortOf x = none ↔ 2048 ≤ x.toNat := by
  by_cases h : x.toNat < 2048
  · simp [copperPortOf, h]
  · simp only [copperPortOf, h, dite_false, true_iff]
    omega

theorem physicalSlot_copperChannel (p : Port) (k : Slot) : physicalSlot (copperChannel p k) = k :=
  Fin.ext (by simp only [physicalSlot, copperChannel_toNat]; omega)

theorem physicalSlot_fibreChannel (F : FibrePort) (k : Slot) : physicalSlot (fibreChannel F k) = k :=
  Fin.ext (by simp only [physicalSlot, fibreChannel_toNat]; omega)

theorem copperPortOf_copperChannel (p : Port) (k : Slot) : copperPortOf (copperChannel p k) = some p :=
  copperPortOf_eq_some_iff.mpr (by rw [physicalSlot_copperChannel])

theorem physicalFibrePort_fibreChannel (F : FibrePort) (k : Slot) : physicalFibrePort (fibreChannel F k) = some F :=
  physicalFibrePort_eq_some_iff.mpr (by rw [physicalSlot_fibreChannel])

theorem copperPortOf_fibreChannel (F : FibrePort) (k : Slot) : copperPortOf (fibreChannel F k) = none :=
  copperPortOf_eq_none_iff.mpr (by rw [fibreChannel_toNat]; omega)

theorem copperForm_eq_copperChannel (n : Listed) : copperForm n = copperChannel (portOf n) (slotOf n) := by
  apply BitVec.eq_of_toNat_eq
  rw [copperForm_toNat, copperChannel_toNat]
  simp only [portOf, slotOf]
  omega

theorem listedChannel_portOf_slotOf (n : Listed) : listedChannel (portOf n) (slotOf n) = n := by
  have hn := n.isLt
  apply BitVec.eq_of_toNat_eq
  simp only [listedChannel, portOf, slotOf, BitVec.toNat_ofNat]
  omega

/-! ## Words (R3 to R5) -/

theorem Mode.ofCode_code (m : Mode) : Mode.ofCode m.code = m := by cases m <;> rfl

/-- A physical word, bit by bit (R5, R48). -/
theorem getLsbD_physicalWord (m : Mode) (x : Physical) (i : Nat) :
    (physicalWord m x).getLsbD i =
      if i < 12 then x.getLsbD i else if i < 14 then m.code.getLsbD (i - 12)
      else decide (i = 15) && oddOnes (0#2 ++ m.code ++ x) := by
  simp only [physicalWord, BitVec.getLsbD_append]
  by_cases h12 : i < 12
  · simp [h12]
  · by_cases h14 : i < 14
    · simp [h12, h14, show i - 12 < 2 by omega]
    · by_cases h15 : i = 14
      · subst h15; rfl
      · simp only [h12, h14, if_false, show ¬ i - 12 < 2 by omega, show ¬ i - 12 - 2 < 1 by omega,
          BitVec.getLsbD_ofBool]
        congr 1
        simp only [decide_eq_decide]
        omega

/-- The bits below the parity content of a word as written: its source and its mode code. -/
theorem extractLsb'_physicalWord (m : Mode) (x : Physical) : (physicalWord m x).extractLsb' 0 14 = m.code ++ x := by
  apply BitVec.eq_of_getLsbD_eq
  intro i hi
  simp only [BitVec.getLsbD_extractLsb', hi, decide_true, Bool.true_and, Nat.zero_add, getLsbD_physicalWord,
    BitVec.getLsbD_append, if_true]

theorem physicalSource_physicalWord (m : Mode) (x : Physical) : physicalSource (physicalWord m x) = x := by
  apply BitVec.eq_of_getLsbD_eq
  intro i hi
  simp [physicalSource, getLsbD_physicalWord, hi]

theorem physicalMode_physicalWord (m : Mode) (x : Physical) : physicalMode (physicalWord m x) = m := by
  have hcode : (physicalWord m x).extractLsb' 12 2 = m.code := by
    apply BitVec.eq_of_getLsbD_eq
    intro i hi
    rw [BitVec.getLsbD_extractLsb', decide_eq_true hi, Bool.true_and, getLsbD_physicalWord, if_neg (by omega),
      if_pos (by omega), Nat.add_sub_cancel_left]
  rw [physicalMode, hcode, Mode.ofCode_code]

/-- The count of ones is that of the bits below the parity content, and the parity content. -/
theorem oddOnes_eq (w : Word) :
    oddOnes w = ((List.range 15).foldl (fun odd i => odd ^^ w.getLsbD i) false ^^ w.getLsbD 15) := by
  rw [oddOnes, List.range_succ, List.foldl_append]
  rfl

/-- Words that agree below the parity content have the same count of ones there. -/
theorem foldl_xor_congr {v w : Word} {l : List Nat} (h : ∀ i ∈ l, v.getLsbD i = w.getLsbD i) :
    l.foldl (fun odd i => odd ^^ v.getLsbD i) false = l.foldl (fun odd i => odd ^^ w.getLsbD i) false := by
  generalize false = b
  induction l generalizing b with
  | nil => rfl
  | cons i l ih =>
    rw [List.foldl_cons, List.foldl_cons, h i List.mem_cons_self]
    exact ih (fun j hj => h j (List.mem_cons_of_mem _ hj)) _

/-- The parity content makes the count of ones even (R5, R48). -/
theorem oddOnes_physicalWord (m : Mode) (x : Physical) : oddOnes (physicalWord m x) = false := by
  have hlow : ∀ i ∈ List.range 15, (physicalWord m x).getLsbD i = (0#2 ++ m.code ++ x : Word).getLsbD i := by
    intro i hi
    have hi := List.mem_range.mp hi
    rw [getLsbD_physicalWord]
    simp only [BitVec.getLsbD_append]
    by_cases h12 : i < 12
    · simp [h12]
    · by_cases h14 : i < 14
      · simp [h12, h14, show i - 12 < 2 by omega]
      · simp [h12, h14, show ¬ i - 12 < 2 by omega, show i ≠ 15 by omega]
  have hparity : (physicalWord m x).getLsbD 15 = oddOnes (0#2 ++ m.code ++ x) := by
    rw [getLsbD_physicalWord]
    rfl
  have hzero : (0#2 ++ m.code ++ x : Word).getLsbD 15 = false := by
    rw [BitVec.getLsbD_append, BitVec.getLsbD_append]
    rfl
  rw [oddOnes_eq, hparity, oddOnes_eq (0#2 ++ m.code ++ x), foldl_xor_congr hlow, hzero]
  simp

theorem parityFailed_physicalWord (m : Mode) (x : Physical) : parityFailed (physicalWord m x) = false :=
  oddOnes_physicalWord m x

/-- A code laid above a field. -/
theorem toNat_code_append {a b : Nat} (c : BitVec a) (x : BitVec b) : (c ++ x).toNat = c.toNat * 2 ^ b + x.toNat := by
  rw [BitVec.toNat_append, ← Nat.shiftLeft_add_eq_or_of_lt x.isLt, Nat.shiftLeft_eq]

/-! ## Translation (R9, R11 to R14) -/

/-- The inverse of a valid map (R9). -/
theorem inverseSlot_eq_some_iff {m : ChannelMap} (h : validMap m = true) {j k : Slot} :
    inverseSlot m j = some k ↔ m[k] = j := by
  refine ⟨fun hk => by simpa using List.find?_some hk, fun hk => ?_⟩
  cases hfound : inverseSlot m j with
  | none => exact absurd hk (by simpa using List.find?_eq_none.mp hfound k (List.mem_finRange k))
  | some l =>
    have hl : m[l] = j := by simpa using List.find?_some hfound
    exact congrArg some (validMap_injective h (hl.trans hk.symm))

/-- The talker of a fibre channel is the slot whose fibre form it is (R14). -/
theorem State.fibreTalker_eq_some_iff {s : State} (hs : s.bindingSound) {x : Physical} {q : Port} {k : Slot} :
    s.fibreTalker x = some (q, k) ↔
      ∃ b, (s.trunk q).binding = some b ∧ x = fibreForm b.fibre b.map k := by
  obtain ⟨-, hbound, hport, -⟩ := hs
  constructor
  · intro h
    unfold State.fibreTalker at h
    split at h
    · exact absurd h (by simp)
    · next q' hq' =>
      obtain ⟨F, hF, hq'⟩ := Option.bind_eq_some_iff.mp hq'
      obtain ⟨b, hb, h⟩ := Option.bind_eq_some_iff.mp h
      obtain ⟨k', hk', h⟩ := Option.map_eq_some_iff.mp h
      obtain ⟨rfl, rfl⟩ := Prod.mk.inj h
      obtain ⟨c, hc, hcF⟩ := hport F q' hq'
      obtain rfl := Option.some.inj (hc.symm.trans hb)
      refine ⟨c, hb, ?_⟩
      rw [fibreForm, hcF, (inverseSlot_eq_some_iff (hbound q' c hb).1).mp hk']
      exact physicalFibrePort_eq_some_iff.mp hF
  · rintro ⟨b, hb, rfl⟩
    obtain ⟨hvalid, -, hF⟩ := hbound q b hb
    have hk : inverseSlot b.map b.map[k] = some k := (inverseSlot_eq_some_iff hvalid).mpr rfl
    simp only [State.fibreTalker, fibreForm, physicalFibrePort_fibreChannel, physicalSlot_fibreChannel,
      Option.bind_some, hF, hb, hk, Option.map_some]

/-- The channel that a source names, in copper or in fibre form (R62). -/
theorem State.channelNamed_eq_some_iff {s : State} (hs : s.bindingSound) {x : Physical} {q : Port} {k : Slot} :
    s.channelNamed x = some (q, k) ↔
      x = copperChannel q k ∨ ∃ b, (s.trunk q).binding = some b ∧ x = fibreForm b.fibre b.map k := by
  cases hx : copperPortOf x with
  | none =>
    have hcopper : x ≠ copperChannel q k := by
      rintro rfl
      simp [copperPortOf_copperChannel] at hx
    simp only [State.channelNamed, hx, hcopper, false_or]
    exact State.fibreTalker_eq_some_iff hs
  | some p =>
    simp only [State.channelNamed, hx, Option.some.injEq, Prod.mk.injEq]
    have hcopper := copperPortOf_eq_some_iff.mp hx
    constructor
    · rintro ⟨rfl, rfl⟩
      exact .inl hcopper
    · rintro (rfl | ⟨b, -, rfl⟩)
      · exact ⟨Option.some.inj (hx.symm.trans (copperPortOf_copperChannel q k)), physicalSlot_copperChannel q k⟩
      · simp [fibreForm, copperPortOf_fibreChannel] at hx

/-- The indexed talker that a word names (R62). -/
theorem State.namedTalker_eq_some_iff {s : State} (hs : s.bindingSound) {w : Word} {q : Port} {k : Slot} :
    s.namedTalker w = some { port := q, slot := k } ↔
      (physicalMode w).listens = true ∧ s.followed q = true ∧
        (physicalSource w = copperChannel q k ∨
          ∃ b, (s.trunk q).binding = some b ∧ physicalSource w = fibreForm b.fibre b.map k) := by
  rw [← State.channelNamed_eq_some_iff hs]
  cases hl : (physicalMode w).listens with
  | false => simp [State.namedTalker, hl]
  | true =>
    cases hn : s.channelNamed (physicalSource w) with
    | none => simp [State.namedTalker, hl, hn]
    | some pk =>
      obtain ⟨p, j⟩ := pk
      by_cases hf : s.followed p = true
      · simp only [State.namedTalker, hl, hn, hf, if_true, Option.some.injEq, Talker.mk.injEq, true_and, Prod.mk.injEq]
        constructor
        · rintro ⟨rfl, rfl⟩; exact ⟨hf, rfl, rfl⟩
        · exact fun h => h.2
      · simp only [State.namedTalker, hl, hn, hf, Bool.false_eq_true, if_false, if_true, reduceCtorEq, true_and,
          Option.some.injEq, Prod.mk.injEq, false_iff]
        rintro ⟨hq, rfl, rfl⟩
        exact hf hq

/-- The source of a processor write is the copper form of its listed source, or its fibre form (R11). -/
theorem State.writeSource_cases (s : State) (m : Mode) (n : Listed) :
    s.writeSource m n = copperForm n ∨ (m.listens = true ∧
      ∃ b, (s.trunk (portOf n)).binding = some b ∧ s.writeSource m n = fibreForm b.fibre b.map (slotOf n)) := by
  unfold State.writeSource
  split
  · next hm =>
    split
    · cases hb : (s.trunk (portOf n)).binding with
      | none => exact .inl (by simp [State.fibreFormOf, hb])
      | some b => exact .inr ⟨hm, b, rfl, by simp [State.fibreFormOf, hb]⟩
    · exact .inl rfl
  · exact .inl rfl

/-- A listed source as written is read back, and is not stray (R11, R14). -/
theorem State.readSource_translateWrite {s t : State} (ht : t.bindingSound)
    (hkept : ∀ p b, (s.trunk p).binding = some b →
      ∃ c, (t.trunk p).binding = some c ∧ c.fibre = b.fibre ∧ c.map = b.map) (w : Word) :
    t.readSource (s.translateWrite w) = (listedSource w, false) := by
  simp only [State.readSource, State.translateWrite, physicalMode_physicalWord, physicalSource_physicalWord]
  generalize listedSource w = n
  rcases s.writeSource_cases (listedMode w) n with hcopper | ⟨hlistens, b, hb, hfibre⟩
  · have hlt : ¬ 2048 ≤ (copperForm n).toNat := by have := n.isLt; rw [copperForm_toNat]; omega
    have hback : (copperForm n).setWidth 11 = n := by simp [copperForm]
    rw [hcopper]
    simp only [hlt, decide_false, Bool.and_false, Bool.false_eq_true, if_false, hback]
  · obtain ⟨c, hc, hF, hm⟩ := hkept _ b hb
    have htalker := (State.fibreTalker_eq_some_iff ht (k := slotOf n)).mpr ⟨c, hc, rfl⟩
    rw [hF, hm] at htalker
    have hge : 2048 ≤ (fibreForm b.fibre b.map (slotOf n)).toNat := by rw [fibreForm_toNat]; omega
    rw [hfibre]
    simp only [hlistens, hge, decide_true, Bool.and_self, if_true, htalker, listedChannel_portOf_slotOf]

/-- A processor read takes a word that a write to the same address lands on (R12, R13). -/
theorem State.readAddress_mem_landingSet (s : State) (a : Listed) : s.readAddress a ∈ s.landingSet a := by
  cases ho : (s.phase (portOf a)).outputState <;> cases hf : s.fibreFormOf (portOf a) (slotOf a) <;>
    simp [State.readAddress, State.landingSet, ho, hf]

/-! ## The settled statement -/

theorem Mode.listens_iff (m : Mode) : m.listens = true ↔ m = .connect ∨ m = .monitor := by
  cases m <;> simp [Mode.listens]

/-- Settles O12. -/
theorem wordsAndSourcesRoundTrip : Obligations.WordsAndSourcesRoundTrip := by
  refine ⟨fun p F m k n mode => ?_, fun ph => ?_, fun m x => ?_, fun s t w a _ ht hkept => ?_, fun s w q k hs => ?_⟩
  · intro code
    have hcode : mode.code.toNat = code := by cases mode <;> rfl
    refine ⟨copperChannel_toNat p k, fibreChannel_toNat F k, fibreForm_toNat F m k, copperForm_toNat n, rfl, rfl,
      ?_, fun x => ?_⟩
    · rw [listedWord, toNat_code_append, toNat_code_append, hcode]
      simp
    · refine (congrArg BitVec.toNat (extractLsb'_physicalWord mode x)).trans ((toNat_code_append _ _).trans ?_)
      omega
  · cases ph <;> decide
  · refine ⟨parityFailed_physicalWord m x, physicalMode_physicalWord m x, physicalSource_physicalWord m x, ?_, ?_⟩
    · rw [getLsbD_physicalWord]; rfl
    · have hlow : ((m.code ++ x).setWidth 16 : Word) = 0#2 ++ m.code ++ x := by
        apply BitVec.eq_of_toNat_eq
        have := (m.code ++ x).isLt
        rw [BitVec.append_assoc, BitVec.toNat_setWidth, BitVec.toNat_cast, toNat_code_append 0#2]
        simp only [BitVec.toNat_ofNat]
        omega
      rw [extractLsb'_physicalWord, hlow, getLsbD_physicalWord]
      rfl
  · have hread := State.readSource_translateWrite ht hkept w
    refine ⟨?_, ?_, s.readAddress_mem_landingSet a⟩
    · rw [State.translateRead, hread, State.translateWrite, physicalMode_physicalWord]
    · rw [State.readIsStray, hread]
  · rw [State.namedTalker_eq_some_iff hs, Mode.listens_iff, State.followed, Bool.and_eq_true, Bool.not_eq_true',
      and_assoc]

end Sys2Proof.Machine
end

section
/-! SUPPORT. The dispatch of fallback (O15): what fallback makes of one record, and of the records that occurrences
reach, in order. -/

namespace Sys2Proof.Machine

variable {u v t : State} {p : Port} {r : TrunkRecord} {armed : List Port} {queue : List (SweepKind × Port × Nat)}
  {ps : List Port} {os : List Occurrence}

/-! ## Ends of events that leave all but the cursors and the arbiter -/

theorem State.resumed_moveCursorOf (v : State) (unit : Option StoreUnit) : v.resumed (v.moveCursorOf unit) := by
  refine ⟨?_, v.moveCursorOf_sweepQueue unit⟩
  rw [State.moveCursorOf_eq]

theorem State.movedAlone.of_resumed (h : u.movedAlone v p r armed queue) (ht : v.resumed t) :
    u.movedAlone t p r armed queue := by
  obtain ⟨⟨htrunk, harmed, hqueue, hlink, hframe⟩, hport, hchannel⟩ := h
  obtain ⟨hresume, hseen⟩ := ht
  generalize t.sweeps = sweeps at hresume
  generalize t.arbiter = arbiter at hresume
  subst hresume
  refine ⟨⟨htrunk, harmed, hseen.trans hqueue, hlink, ?_⟩, hport, hchannel⟩
  conv => lhs; rw [hframe]

theorem State.fallsBack.of_resumed (h : u.fallsBack v ps os) (ht : v.resumed t) : u.fallsBack t ps os := by
  obtain ⟨htrunk, harmed, hqueue, hlink, hfaults, hframe⟩ := h
  obtain ⟨hresume, hseen⟩ := ht
  generalize t.sweeps = sweeps at hresume
  generalize t.arbiter = arbiter at hresume
  subst hresume
  refine ⟨htrunk, harmed, hseen.trans hqueue, hlink, hfaults, ?_⟩
  conv => lhs; rw [hframe]

/-! ## Fallback applied to one record (R145, R146, R154) -/

/-- Whether a record is in ARMED, ROLLING or uncommitted ROLLED: it falls back (R154). -/
def TrunkRecord.inRoll (r : TrunkRecord) : Bool :=
  match r.phase with
  | .armed | .rolling => true
  | .rolled => !r.commit
  | _ => false

theorem State.uncommittedInRoll_eq (s : State) (p : Port) : s.uncommittedInRoll p = (s.trunk p).inRoll := rfl

theorem TrunkRecord.inRoll_cases (h : r.inRoll = true) :
    r.phase = .armed ∨ r.phase = .rolling ∨ (r.phase = .rolled ∧ r.commit = false) := by
  cases hphase : r.phase <;> simp [TrunkRecord.inRoll, hphase] at h ⊢
  exact h

theorem TrunkRecord.fellBack_of_not_inRoll (h : r.inRoll = false) : r.fellBack = r := by
  cases hphase : r.phase <;> simp [TrunkRecord.inRoll, hphase] at h <;> simp [TrunkRecord.fellBack, *]

/-- A record that fell back is out of roll. -/
theorem TrunkRecord.inRoll_fellBack (r : TrunkRecord) : r.fellBack.inRoll = false := by
  cases h : r.inRoll with
  | false => rw [r.fellBack_of_not_inRoll h, h]
  | true => rcases TrunkRecord.inRoll_cases h with h | h | ⟨h, hc⟩ <;> simp [TrunkRecord.fellBack, *, TrunkRecord.inRoll]

theorem TrunkRecord.committed_of_inRoll (h : r.inRoll = true) : r.committed = false := by
  rcases TrunkRecord.inRoll_cases h with h | h | ⟨h, hc⟩ <;> simp [TrunkRecord.committed, *]

theorem TrunkRecord.committed_fellBack (r : TrunkRecord) : r.fellBack.committed = r.committed := by
  cases h : r.inRoll with
  | false => rw [r.fellBack_of_not_inRoll h]
  | true =>
    rw [TrunkRecord.committed_of_inRoll h]
    rcases TrunkRecord.inRoll_cases h with h | h | ⟨h, hc⟩ <;> simp [TrunkRecord.fellBack, *, TrunkRecord.committed]

/-- A record in roll falls back. -/
theorem State.applyFallback_of_inRoll (h : (u.trunk p).inRoll = true) :
    u.movedAlone (u.applyFallback p) p (u.trunk p).fellBack
      (if u.phase p = .armed then u.armedList.erase p else u.armedList) (u.queueFallen u.sweepQueue p) := by
  rcases TrunkRecord.inRoll_cases h with h | h | ⟨h, hc⟩
  · have hphase : u.phase p = .armed := h
    simpa only [State.applyFallback, hphase, TrunkRecord.fellBack, h, State.queueFallen, if_true] using
      u.movedAlone_fallFromArmed p
  · have hphase : u.phase p = .rolling := h
    simpa only [State.applyFallback, hphase, TrunkRecord.fellBack, h, State.queueFallen, State.unrollQueue, if_true,
      reduceCtorEq, if_false] using u.movedAlone_enterUnrolling p .bridged none
  · have hphase : u.phase p = .rolled := h
    simpa only [State.applyFallback, hphase, TrunkRecord.fellBack, h, hc, State.queueFallen, State.unrollQueue,
      reduceCtorEq, if_false] using u.movedAlone_enterUnrolling p .bridged none

/-- Fallback of a committed record is blocked. -/
theorem State.applyFallback_of_committed (h : (u.trunk p).committed = true) :
    u.applyFallback p = u.recordOccurrence .fallbackBlocked (some p) := by
  have hphase : u.phase p = (u.trunk p).phase := rfl
  cases hp : (u.trunk p).phase <;> simp [TrunkRecord.committed, hp] at h <;>
    simp [State.applyFallback, hphase, hp, h]

/-- Fallback leaves any other record. -/
theorem State.applyFallback_of_neither (h : (u.trunk p).inRoll = false) (hc : (u.trunk p).committed = false) :
    u.applyFallback p = u := by
  have hphase : u.phase p = (u.trunk p).phase := rfl
  cases hp : (u.trunk p).phase <;> simp [TrunkRecord.committed, TrunkRecord.inRoll, hp] at h hc <;>
    simp [State.applyFallback, *] at *

/-! ## The records that occurrences reach -/

/-- A port at its first place alone. -/
def addPort (ps : List Port) (p : Port) : List Port := if p ∈ ps then ps else ps ++ [p]

theorem firstPlaces_eq (ps : List Port) : firstPlaces ps = ps.foldl addPort [] := rfl

theorem mem_addPort {q : Port} : q ∈ addPort ps p ↔ q ∈ ps ∨ q = p := by
  unfold addPort
  split
  · next h =>
    refine ⟨.inl, ?_⟩
    rintro (hq | rfl)
    · exact hq
    · exact h
  · simp

theorem firstPlaces_of_nodup {l : List Port} (h : l.Nodup) : firstPlaces l = l := by
  have hfold (rest seen : List Port) (h : (seen ++ rest).Nodup) : rest.foldl addPort seen = seen ++ rest := by
    induction rest generalizing seen with
    | nil => simp
    | cons p rest ih =>
      have hp : p ∉ seen := fun hmem => (List.nodup_append.mp h).2.2 p hmem p List.mem_cons_self rfl
      rw [List.foldl_cons, addPort, if_neg hp, ih _ (by simpa using h), List.append_assoc, List.singleton_append]
  exact (hfold l [] h)

theorem allPorts_nodup : allPorts.Nodup := List.nodup_finRange 64

/-- The records that one occurrence reaches (R185). -/
def State.reachedByOne (u : State) (o : Occurrence) : List Port :=
  if u.dispatches o.1 then
    (match o.2 with
    | some p => [p]
    | none => allPorts)
  else []

theorem State.reachedBy_eq (u : State) (os : List Occurrence) :
    u.reachedBy os = (os.flatMap u.reachedByOne).foldl addPort [] := rfl

/-! ## Fallback, record by record -/

/-- Fallback applied to nothing. -/
theorem State.fallsBack_refl (u : State) : u.fallsBack u [] [] := by
  refine ⟨fun p => by simp, rfl, rfl, ?_, rfl, rfl⟩
  simp

/-- An occurrence taken by the collector. -/
theorem State.fallsBack.record (h : u.fallsBack v ps os) (src : FaultSource) (o : Option Port) :
    u.fallsBack (v.recordOccurrence src o) ps (os ++ [(src, o)]) := by
  obtain ⟨htrunk, harmed, hqueue, hlink, hfaults, hframe⟩ := h
  have htiming : v.timing = u.timing := by rw [hframe]
  rw [State.recordOccurrence_eq]
  refine ⟨htrunk, harmed, hqueue, hlink, ?_, ?_⟩
  · rw [State.collected_append, State.collected_singleton]
    refine State.faults_recordOccurrence_congr ?_ ?_ ..
    · exact hfaults
    · exact htiming
  · generalize (v.recordOccurrence src o).faults = faults
    conv => lhs; rw [hframe]

/-- A record that is not in roll counts among those that fallback reached. -/
theorem State.fallsBack.addPort (h : u.fallsBack v ps os) (hp : (u.trunk p).inRoll = false ∨ p ∈ ps) :
    u.fallsBack v (addPort ps p) os := by
  by_cases hmem : p ∈ ps
  · rwa [Machine.addPort, if_pos hmem]
  have hp := hp.resolve_right hmem
  have hphase : u.phase p = (u.trunk p).phase := rfl
  have harmedNot : u.phase p ≠ .armed := fun ha => by simp [TrunkRecord.inRoll, ← hphase, ha] at hp
  have hfallen : u.queueFallen v.sweepQueue p = v.sweepQueue := by
    cases hph : (u.trunk p).phase <;> simp [TrunkRecord.inRoll, hph] at hp <;>
      simp [State.queueFallen, hphase, hph, hp]
  obtain ⟨htrunk, harmed, hqueue, hlink, hfaults, hframe⟩ := h
  rw [Machine.addPort, if_neg hmem]
  refine ⟨fun q => ?_, ?_, ?_, ?_, hfaults, hframe⟩
  · rw [htrunk q]
    by_cases hqp : q = p
    · subst hqp
      simp [hmem, TrunkRecord.fellBack_of_not_inRoll hp]
    · simp [hqp]
  · rw [List.foldl_append, ← harmed, List.foldl_cons, List.foldl_nil, if_neg harmedNot]
  · rw [List.foldl_append, ← hqueue, List.foldl_cons, List.foldl_nil, hfallen]
  · rw [hlink, List.any_append, List.any_cons, List.any_nil, State.uncommittedInRoll_eq, hp]
    simp

/-- A record in roll falls back after those before it. -/
theorem State.fallsBack.fall (h : u.fallsBack v ps os) (hmem : p ∉ ps) (hp : (u.trunk p).inRoll = true) :
    u.fallsBack (v.applyFallback p) (Machine.addPort ps p) os := by
  obtain ⟨htrunk, harmed, hqueue, hlink, hfaults, hframe⟩ := h
  have hsame : v.trunk p = u.trunk p := by rw [htrunk, if_neg hmem]
  have hphase : v.phase p = u.phase p := congrArg TrunkRecord.phase hsame
  obtain ⟨⟨htrunk', harmed', hqueue', hlink', hframe'⟩, hport', hchannel'⟩ :=
    State.applyFallback_of_inRoll (by rw [hsame, hp])
  generalize v.applyFallback p = w at *
  have hkept : w.faults = v.faults := (congrArg State.faults hframe' :)
  rw [Machine.addPort, if_neg hmem]
  refine ⟨fun q => ?_, ?_, ?_, ?_, ?_, ?_⟩
  · rw [htrunk' q, hsame, htrunk q]
    by_cases hqp : q = p
    · simp [hqp]
    · simp [hqp]
  · rw [List.foldl_append, ← harmed, List.foldl_cons, List.foldl_nil, harmed', hphase]
  · rw [List.foldl_append, ← hqueue, List.foldl_cons, List.foldl_nil, hqueue']
    simp only [State.queueFallen, hphase, hsame]
  · rw [hlink', hlink, List.any_append, List.any_cons, State.uncommittedInRoll_eq u p, hp]
    simp
  · exact hkept.trans hfaults
  · rw [hport', hchannel', ← hkept] at hframe'
    conv => lhs; rw [hframe', hframe]

/-- Fallback that reaches a record after those before it (R154). -/
theorem State.fallsBack.apply (h : u.fallsBack v ps os) (p : Port) :
    u.fallsBack (v.applyFallback p) (Machine.addPort ps p)
      (os ++ if (u.trunk p).committed = true then [(.fallbackBlocked, some p)] else []) := by
  have hv : v.trunk p = if p ∈ ps then (u.trunk p).fellBack else u.trunk p := h.1 p
  have hcommitted : (v.trunk p).committed = (u.trunk p).committed := by
    rw [hv]
    split
    · exact (u.trunk p).committed_fellBack
    · rfl
  cases hc : (u.trunk p).committed with
  | true =>
    have hroll : (u.trunk p).inRoll = false := by
      cases hroll : (u.trunk p).inRoll with
      | false => rfl
      | true => rw [TrunkRecord.committed_of_inRoll hroll] at hc; exact absurd hc (by simp)
    rw [State.applyFallback_of_committed (hcommitted.trans hc), if_pos rfl]
    exact (h.addPort (.inl hroll)).record ..
  | false =>
    rw [if_neg (by simp), List.append_nil]
    cases hroll : (v.trunk p).inRoll with
    | false =>
      rw [State.applyFallback_of_neither hroll (hcommitted.trans hc)]
      refine h.addPort ?_
      by_cases hmem : p ∈ ps
      · exact .inr hmem
      · exact .inl (by rwa [hv, if_neg hmem] at hroll)
    | true =>
      have hmem : p ∉ ps := fun hmem => by
        rw [hv, if_pos hmem, TrunkRecord.inRoll_fellBack] at hroll
        exact absurd hroll (by simp)
      exact h.fall hmem (by rwa [hv, if_neg hmem] at hroll)

/-- Fallback of one record leaves the others in roll or out of it. -/
theorem State.uncommittedInRoll_applyFallback (v : State) {p q : Port} (hq : q ≠ p) :
    (v.applyFallback p).uncommittedInRoll q = v.uncommittedInRoll q := by
  have happly := (v.fallsBack_refl.apply p).1 q
  have hnot : q ∉ Machine.addPort [] p := by simp [Machine.addPort, hq]
  rw [if_neg hnot] at happly
  rw [State.uncommittedInRoll_eq, State.uncommittedInRoll_eq, happly]

/-- A device-wide dispatch: the records of a list that are in roll when it begins fall back in order (R154, R185). -/
theorem State.fallsBack.applyAll {s : State} {l : List Port} (h : u.fallsBack v ps os) (hnodup : l.Nodup)
    (hs : ∀ q ∈ l, s.uncommittedInRoll q = v.uncommittedInRoll q) :
    u.fallsBack ((l.filter s.uncommittedInRoll).foldl State.applyFallback v) (l.foldl Machine.addPort ps) os := by
  induction l generalizing v ps with
  | nil => exact h
  | cons p l ih =>
    obtain ⟨hp, hnodup⟩ := List.nodup_cons.mp hnodup
    have hsp := hs p List.mem_cons_self
    have hv : v.trunk p = if p ∈ ps then (u.trunk p).fellBack else u.trunk p := h.1 p
    rw [List.foldl_cons]
    cases hroll : s.uncommittedInRoll p with
    | true =>
      rw [List.filter_cons_of_pos hroll, List.foldl_cons]
      have hvroll : (v.trunk p).inRoll = true := by rw [← State.uncommittedInRoll_eq, ← hsp, hroll]
      have hmem : p ∉ ps := fun hmem => by
        rw [hv, if_pos hmem, TrunkRecord.inRoll_fellBack] at hvroll
        exact absurd hvroll (by simp)
      refine ih (h.fall hmem (by rwa [hv, if_neg hmem] at hvroll)) hnodup fun q hq => ?_
      rw [hs q (List.mem_cons_of_mem _ hq), State.uncommittedInRoll_applyFallback v (by rintro rfl; exact hp hq)]
    | false =>
      rw [List.filter_cons_of_neg (by simp [hroll])]
      refine ih (h.addPort ?_) hnodup fun q hq => hs q (List.mem_cons_of_mem _ hq)
      have hvroll : (v.trunk p).inRoll = false := by rw [← State.uncommittedInRoll_eq, ← hsp, hroll]
      by_cases hmem : p ∈ ps
      · exact .inr hmem
      · exact .inl (by rwa [hv, if_neg hmem] at hvroll)

/-! ## The dispatch of occurrences (R185) -/

/-- A source is dispatched as it was before the occurrences that were taken. -/
theorem State.collected_dispatches (s : State) (os : List Occurrence) (src : FaultSource) :
    ({ s with faults := s.collected os } : State).dispatches src = s.dispatches src := by
  induction os generalizing s with
  | nil => rfl
  | cons o os ih =>
    have hone : (s.recordOccurrence o.1 o.2).dispatches src = s.dispatches src := by
      rw [State.dispatches, State.dispatches, State.source_recordOccurrence]
      split
      · next heq => rw [heq]; rfl
      · rfl
    exact (ih (s.recordOccurrence o.1 o.2)).trans hone

theorem State.fallsBack.dispatches (h : u.fallsBack v ps os) (src : FaultSource) :
    v.dispatches src = u.dispatches src := by
  have hfaults : v.faults = u.collected os := h.2.2.2.2.1
  rw [← State.collected_dispatches u os src, ← hfaults]
  rfl

/-- The dispatch of one occurrence that the collector has taken. -/
theorem State.fallsBack.dispatchFor (h : u.fallsBack v ps os) (o : Occurrence) :
    u.fallsBack (v.dispatchFor o) ((u.reachedByOne o).foldl Machine.addPort ps) (os ++ u.blockedBy o) := by
  obtain ⟨src, o⟩ := o
  unfold State.dispatchFor State.reachedByOne
  dsimp only
  rw [h.dispatches]
  cases hd : u.dispatches src with
  | false => cases o <;> simpa [State.blockedBy, hd] using h
  | true =>
    cases o with
    | some p => simpa [State.blockedBy, hd, State.dispatchFallback] using h.apply p
    | none => simpa [State.blockedBy, hd, State.dispatchFallback] using h.applyAll allPorts_nodup fun q _ => rfl

/-- The dispatch of occurrences that the collector has taken, one after another (R178). -/
theorem State.fallsBack.dispatchAll (h : u.fallsBack v ps os) (more : List Occurrence) :
    u.fallsBack (v.dispatchAll more) ((more.flatMap u.reachedByOne).foldl Machine.addPort ps)
      (os ++ more.flatMap u.blockedBy) := by
  induction more generalizing v ps os with
  | nil => simpa [State.dispatchAll] using h
  | cons o more ih =>
    rw [List.flatMap_cons, List.flatMap_cons, List.foldl_append, ← List.append_assoc]
    exact ih (h.dispatchFor o)

/-- Occurrences taken and dispatched one after another (R180, R185). -/
theorem State.fallsBack.raisedOne (h : u.fallsBack v ps os) (o : Occurrence) :
    u.fallsBack ((v.recordOccurrence o.1 o.2).dispatchFor o) ((u.reachedByOne o).foldl Machine.addPort ps)
      (os ++ (o :: u.blockedBy o)) := by
  have hrecorded := (h.record o.1 o.2).dispatchFor o
  rwa [List.append_assoc] at hrecorded

/-- What falls back takes no account of the items that fallback does not read. -/
theorem State.fallsBack.dispatched (h : u.fallsBack v ps os) (o : Occurrence) (hd : u.dispatches o.1 = true) :
    u.fallsBack (v.dispatchFallback o.2) ((u.reachedByOne o).foldl Machine.addPort ps) (os ++ u.blockedBy o) := by
  have hdispatch := h.dispatchFor o
  rwa [State.dispatchFor, h.dispatches, if_pos hd] at hdispatch

/-! ## The occurrences of the unit in progress -/

/-- `t` has the collector of `s` after some occurrences, its timing unit, and its peer link but for a change pending. -/
def State.collectsTo (s t : State) : Prop :=
  (∃ os, t.faults = s.collected os) ∧ t.timing = s.timing ∧ ∃ c, t.link = { s.link with changePending := c }

theorem State.collectsTo.same {s t : State} (hf : t.faults = s.faults) (ht : t.timing = s.timing)
    (hl : t.link = s.link) : s.collectsTo t :=
  ⟨⟨[], hf⟩, ht, s.link.changePending, hl⟩

theorem State.collectsTo.trans {s t w : State} (h : s.collectsTo t) (k : t.collectsTo w) : s.collectsTo w := by
  obtain ⟨⟨os, hos⟩, ht, c, hl⟩ := h
  obtain ⟨⟨more, hmore⟩, hw, c', hl'⟩ := k
  refine ⟨⟨os ++ more, ?_⟩, hw.trans ht, c', by rw [hl', hl]⟩
  rw [State.collected_append, hmore]
  apply State.collected_congr
  · exact hos
  · exact ht

theorem State.collectsTo_recordOccurrence (s : State) (src : FaultSource) (o : Option Port) :
    s.collectsTo (s.recordOccurrence src o) :=
  ⟨⟨[(src, o)], rfl⟩, s.recordOccurrence_timing src o, s.link.changePending, s.recordOccurrence_link src o⟩

/-- Occurrences change no mask and no class: a source dispatches as before (R180). -/
theorem State.collectsTo.dispatches {s t : State} (h : s.collectsTo t) (src : FaultSource) :
    t.dispatches src = s.dispatches src := by
  obtain ⟨⟨os, hos⟩, -⟩ := h
  rw [← State.collected_dispatches s os src, ← hos]
  rfl

theorem State.fallsBack.collectsTo (h : u.fallsBack v ps os) : u.collectsTo v := by
  obtain ⟨-, -, -, hlink, hfaults, hframe⟩ := h
  exact ⟨⟨os, hfaults⟩, (congrArg State.timing hframe :), _, hlink⟩

theorem State.collectsTo_dispatchAll (s : State) (os : List Occurrence) : s.collectsTo (s.dispatchAll os) :=
  (s.fallsBack_refl.dispatchAll os).collectsTo

theorem State.collectsTo_addLink (s : State) (t : Talker) (x : Physical) : s.collectsTo (s.addLink t x).1 := by
  unfold State.addLink
  split
  · exact .same rfl rfl rfl
  · exact .trans (t := (s.setIndexLost t.port true).freeLinks t.port) (.same rfl rfl rfl)
      (State.collectsTo_recordOccurrence ..)

theorem State.collectsTo_observe (s : State) (x : Physical) (w : Word) : s.collectsTo (s.observe x w).1 := by
  cases hx : s.linkAt x with
  | none =>
    cases hw : s.namedTalker w with
    | none => simpa only [State.observe, hx, hw] using State.collectsTo.same rfl rfl rfl
    | some t => simpa only [State.observe, hx, hw] using s.collectsTo_addLink t x
  | some l =>
    have hremove : s.collectsTo (s.removeLink l) := .same rfl rfl rfl
    cases hw : s.namedTalker w with
    | none => simpa only [State.observe, hx, hw] using hremove
    | some t =>
      simp only [State.observe, hx, hw]
      split
      · exact .same rfl rfl rfl
      · exact hremove.trans (State.collectsTo_addLink _ t x)

theorem State.collectsTo_writesReported (s : State) (ws : List (Physical × Word)) :
    s.collectsTo (s.writesReported ws).1 := by
  induction ws generalizing s with
  | nil => exact .same rfl rfl rfl
  | cons xw ws ih =>
    have hwrite : s.collectsTo (s.writeWord xw.1 xw.2) := .same rfl rfl rfl
    exact (hwrite.trans (State.collectsTo_observe _ xw.1 xw.2)).trans (ih _)

theorem State.collectsTo_censusRead (s : State) (p : Port) (x : Physical) (w : Word) :
    s.collectsTo (s.censusRead p x w).1 := by
  unfold State.censusRead
  split
  · exact .same rfl rfl rfl
  · split
    · split
      · exact s.collectsTo_addLink _ x
      · exact .same rfl rfl rfl
    · exact .same rfl rfl rfl

theorem State.collectsTo_sweepAccesses (s : State) (sw : Sweep) : s.collectsTo (s.sweepAccesses sw).1 := by
  unfold State.sweepAccesses
  split
  · exact s.collectsTo_censusRead ..
  · exact s.collectsTo_writesReported _

theorem State.collectsTo_runSweepUnit (s : State) (p : Port) : s.collectsTo (s.runSweepUnit p) := by
  unfold State.runSweepUnit
  split
  · exact .same rfl rfl rfl
  · next sw _ =>
    dsimp only
    have hcounted : s.collectsTo (match (s.sweepAccesses sw).1.sweepOf p with
        | some now => (s.sweepAccesses sw).1.setSweep now.counted
        | none => (s.sweepAccesses sw).1) := by
      split
      · exact (s.collectsTo_sweepAccesses sw).trans (.same rfl rfl rfl)
      · exact s.collectsTo_sweepAccesses sw
    refine State.collectsTo.trans ?_ (State.collectsTo_dispatchAll _ _)
    split
    · exact hcounted.trans (State.collectsTo_recordOccurrence ..)
    · exact hcounted

theorem State.collectsTo_runUnit (s : State) (unit : StoreUnit) : s.collectsTo (s.runUnit unit) := by
  match unit with
  | .processor (.read a) =>
    rw [State.runUnit, State.runProcessorRead_eq]
    refine State.collectsTo.trans (t := (({ s with faults := s.collected (s.readFaults a) } : State).reportStoreCycle a
      true).giveReadyWith (s.translateRead (s.readWord (s.readAddress a)))) ⟨⟨s.readFaults a, ?_⟩, ?_, s.link.changePending, ?_⟩
      (State.collectsTo_dispatchAll _ _)
    · simp
    · simp
    · simp
  | .processor (.write a w) =>
    refine ((s.collectsTo_writesReported (s.processorWrites a w)).trans ?_).trans (State.collectsTo_dispatchAll _ _)
    exact .same (by simp) (by simp) (by simp)
  | .processor (.raw x) =>
    refine .same ?_ ?_ ?_
    · simp only [State.runUnit, State.runRawRead, State.answerRaw, State.giveReady]
      split <;> rfl
    · simp only [State.runUnit, State.runRawRead, State.answerRaw, State.giveReady]
      split <;> rfl
    · simp only [State.runUnit, State.runRawRead, State.answerRaw, State.giveReady]
      split <;> rfl
  | .sweep _ p => exact s.collectsTo_runSweepUnit p

theorem State.collectsTo_atBoundary (s : State) : s.collectsTo s.atBoundary := by
  cases h : s.arbiter.inProgress with
  | none => rw [State.atBoundary_of_free h]; exact .same rfl rfl rfl
  | some unit =>
    simp only [State.atBoundary, h]
    exact (s.collectsTo_runUnit unit).trans (.same rfl rfl rfl)

/-! ## Faults at an event of their own -/

/-- A fault raised at an event of its own (R180, R185). -/
theorem State.raisesAt_raise (u : State) (src : FaultSource) (trunk : Option Port) (ht : (u.raise src trunk).resumed t) :
    u.raisesAt t src trunk := by
  have hv : ({ u with faults := u.collected [(src, trunk)] } : State) = u.recordOccurrence src trunk := by
    rw [State.collected_singleton, ← State.recordOccurrence_eq]
  unfold State.raisesAt
  dsimp only
  rw [hv, State.reachedBy_eq]
  unfold State.raise at ht
  dsimp only at ht
  rw [State.dispatches_recordOccurrence] at ht
  split
  · next hd =>
    rw [if_pos hd] at ht
    have hboundary : (u.recordOccurrence src trunk).atBoundary.dispatches src = true := by
      rw [(State.collectsTo_atBoundary _).dispatches, State.dispatches_recordOccurrence, hd]
    have hdispatch := (State.fallsBack_refl _).dispatched (src, trunk) hboundary
    have hmoved := (hdispatch.of_resumed (State.resumed_moveCursorOf _ _)).of_resumed ht
    simpa using hmoved
  · next hd => rwa [if_neg hd] at ht

/-- Settles O15. -/
theorem fallbackDispatchTakesRecordsBack : Obligations.FallbackDispatchTakesRecordsBack := by
  refine ⟨fun s src trunk hmask hcls => ?_, fun u os => ?_⟩
  · intro u t
    have hd : (s.recordOccurrence src trunk).dispatches src = true := by
      rw [State.dispatches_recordOccurrence, State.dispatches, hmask, hcls]
      rfl
    have ht : (u.dispatchFallback trunk).resumed t := by
      have hraise : t = (u.dispatchFallback trunk).moveCursorOf (s.recordOccurrence src trunk).arbiter.inProgress := by
        change s.raise src trunk = _
        rw [State.raise, if_pos hd, State.atUnitEnd]
      rw [hraise]
      exact State.resumed_moveCursorOf _ _
    clear_value u t
    refine ⟨?_, ?_⟩
    · rintro p rfl
      change (u.applyFallback p).resumed t at ht
      have hroll (h : (u.trunk p).inRoll = true) := ((State.applyFallback_of_inRoll h).of_resumed ht).1
      have hblocked (h : (u.trunk p).committed = true) : u.fallsBack t [] [(.fallbackBlocked, some p)] := by
        rw [State.applyFallback_of_committed h] at ht
        exact (u.fallsBack_refl.record .fallbackBlocked (some p)).of_resumed ht
      have hkept (h : (u.trunk p).inRoll = false) (hc : (u.trunk p).committed = false) : u.fallsBack t [] [] := by
        rw [State.applyFallback_of_neither h hc] at ht
        exact u.fallsBack_refl.of_resumed ht
      have hphase : u.phase p = (u.trunk p).phase := rfl
      simp only [hphase, State.queueFallen] at hroll ⊢
      cases hp : (u.trunk p).phase <;> simp only [TrunkRecord.inRoll, TrunkRecord.committed, hp] at hroll hblocked hkept
      case armed => simpa using hroll trivial
      case rolling => simpa [State.unrollQueue, hphase, hp] using hroll trivial
      case rolled =>
        cases hc : (u.trunk p).commit with
        | false => simpa [State.unrollQueue, hphase, hp, hc] using hroll (by simp [hc])
        | true => simpa using hblocked (by simp [hc])
      case releasing => simpa using hblocked (by simp)
      case migrated => simpa using hblocked (by simp)
      all_goals simpa using hkept trivial (by simp)
    · rintro rfl
      have hall := (u.fallsBack_refl.applyAll allPorts_nodup fun q _ => rfl).of_resumed ht
      rwa [← firstPlaces_eq, firstPlaces_of_nodup allPorts_nodup] at hall
  · have hall := u.fallsBack_refl.dispatchAll os
    rwa [List.nil_append] at hall

end Sys2Proof.Machine
end

section
/-! SUPPORT. The end of a processor unit, and PROCESSOR_READ (O10). -/

namespace Sys2Proof.Machine

variable {s t : State} {a : Listed} {w : Word}

/-! ## The end of a processor unit -/

/-- A processor unit in progress ends with the effects of its run (R43). -/
theorem exec_processorRow {u : ProcessorUnit} (h : s.arbiter.inProgress = some (.processor u)) :
    ∃ t, exec (StoreUnit.row (.processor u)) s = .next t ∧ (s.runUnit (.processor u)).resumed t := by
  refine ⟨_, exec_row h, ?_⟩
  have hend : s.finishUnit = { s.runUnit (.processor u) with
      arbiter := { (s.runUnit (.processor u)).arbiter with inProgress := none } } := by
    simp only [State.finishUnit, State.atUnitEnd, State.atBoundary, h, State.moveCursorOf]
  rw [hend]
  refine ⟨?_, ?_⟩
  · rw [State.resume_eq]
  · rw [State.resume_sweepQueue]
    rfl

/-! ## The word that a read returns (R13 to R15) -/

theorem State.readSource_of_copper (hx : (physicalSource w).toNat < 2048) :
    s.readSource w = ((physicalSource w).setWidth 11, false) := by
  have hlt : ¬ 2048 ≤ (physicalSource w).toNat := by omega
  simp [State.readSource, hlt]

theorem State.readSource_of_not_listener (h : (physicalMode w).listens = false) :
    s.readSource w = ((physicalSource w).setWidth 11, false) := by
  simp [State.readSource, h]

theorem State.readSource_of_fibre (h : (physicalMode w).listens = true) {F : FibrePort} {j : Slot}
    (hx : physicalSource w = fibreChannel F j) :
    s.readSource w =
      ((s.fibreTalker (fibreChannel F j)).map fun qk => (listedChannel qk.1 qk.2, false)).getD (2047, true) := by
  have hge : 2048 ≤ (fibreChannel F j).toNat := by rw [fibreChannel_toNat]; omega
  simp only [State.readSource, h, hx, hge, decide_true, Bool.and_self, if_true]
  cases s.fibreTalker (fibreChannel F j) <;> rfl

/-- A stray word is returned with source 2047 (R14). -/
theorem State.readSource_of_stray (h : s.readIsStray w = true) : s.readSource w = (2047, true) := by
  unfold State.readIsStray State.readSource at h
  unfold State.readSource
  dsimp only at h ⊢
  split
  · next hfibre =>
    rw [if_pos hfibre] at h
    cases htalker : s.fibreTalker (physicalSource w) with
    | none => rfl
    | some qk =>
      simp only [htalker] at h
      exact absurd h (by simp)
  · next hcopper =>
    rw [if_neg hcopper] at h
    exact absurd h (by simp)

theorem setWidth_eq_ofNat_mod (x : Physical) : x.setWidth 11 = BitVec.ofNat 11 (x.toNat % 2048) := by
  apply BitVec.eq_of_toNat_eq
  simp

/-! ## The end of a processor read -/

/-- The occurrences of a processor read carry no trunk, so that none of them is blocked. -/
theorem State.blockedBy_readFaults (u s : State) (a : Listed) : (s.readFaults a).flatMap u.blockedBy = [] := by
  unfold State.readFaults
  split <;> split <;> simp [State.blockedBy]

/-- A processor read leaves all but the port, the channel, the collector, and what its faults take back. -/
theorem State.runProcessorRead_fallsBack (s : State) (a : Listed) :
    ∃ ps v, v = ({ s with
        port := { cycle := none, readData := s.translateRead (s.readWord (s.readAddress a)) }
        channel := (s.reportStoreCycle a true).channel
        faults := s.collected (s.readFaults a) } : State) ∧ v.fallsBack (s.runProcessorRead a) ps [] := by
  have hall := (State.fallsBack_refl
    ((({ s with faults := s.collected (s.readFaults a) } : State).reportStoreCycle a true).giveReadyWith
        (s.translateRead (s.readWord (s.readAddress a))))).dispatchAll (s.readFaults a)
  rw [← State.runProcessorRead_eq, State.blockedBy_readFaults, List.append_nil] at hall
  refine ⟨_, _, ?_, hall⟩
  rw [State.giveReadyWith, State.reportStoreCycle_eq, State.reportStoreCycle_channel, State.reportStoreCycle_channel]

/-- What the collector holds for a source after the occurrences of a processor read. -/
theorem State.source_readFaults (s : State) (a : Listed) :
    let t : State := { s with faults := s.collected (s.readFaults a) }
    let w := s.readWord (s.readAddress a)
    (t.source .storeParity =
      if parityFailed w then (s.source .storeParity).occurred none else s.source .storeParity) ∧
    (t.source .straySource =
      if s.readIsStray w then (s.source .straySource).occurred none else s.source .straySource) := by
  intro t w
  have ht : t = (s.readFaults a).foldl (fun s o => s.recordOccurrence o.1 o.2) s :=
    (State.foldl_recordOccurrence_eq _ _).symm
  clear_value t
  subst ht
  have hfaults : s.readFaults a = (if parityFailed w then [(.storeParity, none)] else []) ++
      (if s.readIsStray w then [(.straySource, none)] else []) := rfl
  rw [hfaults]
  cases parityFailed w <;> cases s.readIsStray w <;> simp [State.source_recordOccurrence]

/-- Settles O10. -/
theorem processorReadReturnsTheListedWord : Obligations.ProcessorReadReturnsTheListedWord := by
  intro s a hread w
  obtain ⟨t, hexec, ht⟩ := exec_processorRow hread
  obtain ⟨ps, v, hv, hfalls⟩ := s.runProcessorRead_fallsBack a
  have hfalls : v.fallsBack t ps [] := hfalls.of_resumed ht
  obtain ⟨-, -, -, -, hfaults, hframe⟩ := hfalls
  have hfaults : t.faults = s.collected (s.readFaults a) := hfaults.trans (by rw [hv]; rfl)
  have hsources := s.source_readFaults a
  have hlistens := (physicalMode w).listens_iff
  refine ⟨t, hexec, ?_, ?_, ?_, ?_, ?_, ?_, ?_, ?_, ?_, ?_, ?_, ?_⟩
  · intro hphase
    cases hp : s.phase (portOf a) <;> simp [hp] at hphase <;> simp [State.readAddress, hp, Phase.outputState]
  · intro b hphase hb
    cases hp : s.phase (portOf a) <;> simp [hp] at hphase <;>
      simp [State.readAddress, hp, Phase.outputState, State.fibreFormOf, hb]
  · intro x returns listener
    have hreturns {n : Nat} (h : s.readSource w = (BitVec.ofNat 11 n, false)) : returns n := by
      simp only [returns, State.translateRead, State.readIsStray, h, and_self]
    refine ⟨fun _ hx => hreturns ?_, fun q b k hl hx hq hb hvalid => hreturns ?_, fun F j hl hx hF => ?_,
      fun hl => hreturns ?_⟩
    · have hmod : x.toNat % 2048 = x.toNat := Nat.mod_eq_of_lt hx
      rw [State.readSource_of_copper hx, setWidth_eq_ofNat_mod, hmod]
    · have hk : inverseSlot b.map b.map[k] = some k := (inverseSlot_eq_some_iff hvalid).mpr rfl
      rw [State.readSource_of_fibre (hlistens.mpr hl) hx]
      simp only [State.fibreTalker, physicalFibrePort_fibreChannel, physicalSlot_fibreChannel, Option.bind_some, hq, hb,
        hk, Option.map_some]
      rfl
    · rw [State.readIsStray, State.readSource_of_fibre (hlistens.mpr hl) hx]
      simp only [State.fibreTalker, physicalFibrePort_fibreChannel, Option.bind_some, hF, Option.map_none,
        Option.getD_none]
    · rw [State.readSource_of_not_listener (by simpa using fun h => hl (hlistens.mp h)), setWidth_eq_ofNat_mod]
  · rw [hframe, hv]
  · rw [hframe, hv]
  · rw [hframe, hv]
  · rw [hframe, hv]
  · rw [hframe, hv]
  · intro hp hs
    have hnone : s.readFaults a = [] := by
      change (if parityFailed w then _ else _) ++ (if s.readIsStray w then _ else _) = []
      simp [hp, hs]
    have hrun : s.runProcessorRead a = ({ s with
        port := { cycle := none, readData := s.translateRead w }
        channel := (s.reportStoreCycle a true).channel } : State) := by
      rw [State.runProcessorRead_eq, hnone]
      simp only [State.dispatchAll, List.foldl_nil, State.collected_nil, State.giveReadyWith]
      rw [State.reportStoreCycle_eq]
    obtain ⟨hresume, hqueue⟩ := ht
    have hrun' : s.runUnit (.processor (.read a)) = s.runProcessorRead a := rfl
    rw [hrun', hrun] at hresume hqueue
    refine ⟨?_, hqueue⟩
    rw [hresume]
  · have h := hsources.1
    rwa [← hfaults] at h
  · have h := hsources.2
    rwa [← hfaults] at h
  · intro hs
    rw [State.translateRead, State.readSource_of_stray hs]

end Sys2Proof.Machine
end

section
/-! SUPPORT. The reports of a store unit to the listener index, and PROCESSOR_WRITE (O9). -/

namespace Sys2Proof.Machine

variable {s t : State} {x : Physical} {w : Word}

/-! ## What the index makes of one report (R62 to R65, R73) -/

/-- The talker that a word names is read off the trunk table and the fibre binding table (R62). -/
theorem State.namedTalker_congr (htrunks : t.trunks = s.trunks) (hfibre : t.fibreTable = s.fibreTable) :
    t.namedTalker = s.namedTalker := by
  have hbound : t.boundTo = s.boundTo := by
    funext F
    simp only [State.boundTo, hfibre]
  have htrunk : t.trunk = s.trunk := by
    funext p
    simp only [State.trunk, htrunks]
  funext w
  unfold State.namedTalker State.channelNamed State.fibreTalker State.followed State.phase
  rw [hbound, htrunk]

theorem State.linksReported_congr (h : t.namedTalker = s.namedTalker) (links : List Link) (x : Physical) (w : Word) :
    t.linksReported links x w = s.linksReported links x w := by
  simp only [State.linksReported, h]

/-- The links after a report, with a link free. -/
theorem State.observe_links (h : s.links.length < linkPoolSize) (x : Physical) (w : Word) :
    (s.observe x w).1.links = s.linksReported s.links x w := by
  have hroom (l : Link) : (s.removeLink l).links.length < linkPoolSize :=
    Nat.lt_of_le_of_lt (List.length_filter_le _ _) h
  unfold State.observe State.linksReported
  change (match s.linkAt x, s.namedTalker w with
    | none, none => (s, [])
    | none, some t => s.addLink t x
    | some l, none => (s.removeLink l, [])
    | some l, some t => if l.talker = t then (s, []) else (s.removeLink l).addLink t x).1.links =
    match s.linkAt x, s.namedTalker w with
    | none, none => s.links
    | none, some t => s.links ++ [{ talker := t, listener := x }]
    | some _, none => s.links.filter (fun l => l.listener != x)
    | some l, some t =>
      if l.talker = t then s.links else s.links.filter (fun l => l.listener != x) ++ [{ talker := t, listener := x }]
  have hlistener {l : Link} (hl : s.linkAt x = some l) : l.listener = x := by simpa using List.find?_some hl
  cases hx : s.linkAt x with
  | none =>
    cases s.namedTalker w with
    | none => rfl
    | some t => simp only [State.addLink_of_free _ _ h]
  | some l =>
    cases s.namedTalker w with
    | none => simp only [State.removeLink, hlistener hx]
    | some t =>
      dsimp only
      split
      · rfl
      · rw [State.addLink_of_free _ _ (hroom l)]
        simp only [State.removeLink, hlistener hx]

/-- The sweeps after a report that removes no link. -/
theorem State.observe_sweeps_kept (h : ∀ l, s.linkAt x = some l → s.namedTalker w = some l.talker) :
    (s.observe x w).1.sweeps = s.sweeps := by
  cases hx : s.linkAt x with
  | none =>
    cases hw : s.namedTalker w with
    | none => simp only [State.observe, hx, hw]
    | some t =>
      simp only [State.observe, hx, hw]
      rw [State.addLink_eq]
  | some l => simp only [State.observe, hx, h l hx, if_true]

/-- The sweeps after a report that removes a link: a cursor that stands at it moves (R93). -/
theorem State.observe_sweeps_removed {l : Link} (hx : s.linkAt x = some l) (h : s.namedTalker w ≠ some l.talker) :
    (s.observe x w).1.sweeps = s.sweeps.map (s.cursorAfterRemoval l.talker l.listener) := by
  cases hw : s.namedTalker w with
  | none => simp only [State.observe, hx, hw, State.removeLink]
  | some t =>
    have hne : l.talker ≠ t := fun heq => h (by rw [hw, heq])
    simp only [State.observe, hx, hw, if_neg hne]
    rw [State.addLink_eq]
    rfl

/-- The link that a report takes away. -/
theorem State.link_goes (h : ¬ ∀ l, s.linkAt x = some l → s.namedTalker w = some l.talker) :
    ∃ l, s.linkAt x = some l ∧ s.namedTalker w ≠ some l.talker := by
  cases hx : s.linkAt x with
  | none => exact absurd (fun l hl => absurd (hx.symm.trans hl) (by simp)) h
  | some l => exact ⟨l, rfl, fun hl => h fun l' hl' => by rwa [← Option.some.inj (hx.symm.trans hl')]⟩

/-- A report moves no cursor but those of the lists. -/
theorem State.observe_mem_sweeps {sw : Sweep} (hsw : sw ∈ s.sweeps) (hcursor : ∀ c, sw.cursor ≠ .index c) :
    sw ∈ (s.observe x w).1.sweeps := by
  by_cases h : ∀ l, s.linkAt x = some l → s.namedTalker w = some l.talker
  · rwa [State.observe_sweeps_kept h]
  · obtain ⟨l, hx, hne⟩ := State.link_goes h
    rw [State.observe_sweeps_removed hx hne]
    refine List.mem_map.mpr ⟨sw, hsw, ?_⟩
    cases hc : sw.cursor <;> simp [State.cursorAfterRemoval, hc]
    exact absurd hc (hcursor _)

/-- The occurrences of a report are those that the collector takes. -/
theorem State.addLink_faults (s : State) (t : Talker) (x : Physical) :
    (s.addLink t x).1.faults = s.collected (s.addLink t x).2 := by
  unfold State.addLink
  split
  · rfl
  · rw [State.overflow, State.collected_singleton]
    apply State.faults_recordOccurrence_congr <;> rfl

theorem State.observe_faults (s : State) (x : Physical) (w : Word) :
    (s.observe x w).1.faults = s.collected (s.observe x w).2 := by
  cases hx : s.linkAt x with
  | none =>
    cases hw : s.namedTalker w with
    | none => simp only [State.observe, hx, hw, State.collected_nil]
    | some t => simpa only [State.observe, hx, hw] using s.addLink_faults t x
  | some l =>
    cases hw : s.namedTalker w with
    | none => simp only [State.observe, hx, hw, State.collected_nil, State.removeLink]
    | some t =>
      simp only [State.observe, hx, hw]
      split
      · rfl
      · rw [State.addLink_faults]
        apply State.collected_congr <;> rfl

/-- The occurrences of a report are overflows (R67). -/
theorem State.addLink_overflows (s : State) (t : Talker) (x : Physical) :
    ∀ o ∈ (s.addLink t x).2, o = (.indexOverflow, some t.port) := by
  unfold State.addLink
  split
  · simp
  · intro o ho
    exact List.mem_singleton.mp ho

theorem State.observe_overflows (s : State) (x : Physical) (w : Word) :
    ∀ o ∈ (s.observe x w).2, o.1 = .indexOverflow := by
  have hadd (u : State) (t : Talker) : ∀ o ∈ (u.addLink t x).2, o.1 = .indexOverflow := fun o ho => by
    rw [u.addLink_overflows t x o ho]
  unfold State.observe
  split
  · simp
  · exact hadd _ _
  · simp
  · split
    · simp
    · exact hadd _ _

/-- Overflow for the talker's trunk, when a word names it and no link is free (R67). -/
theorem State.observe_of_full {k : Talker} (hx : s.linkAt x = none) (hw : s.namedTalker w = some k)
    (hfull : linkPoolSize ≤ s.links.length) : s.observe x w = s.overflow k.port := by
  simp only [State.observe, hx, hw, State.addLink, if_neg (Nat.not_lt.mpr hfull)]

/-! ## The reports of a unit's writes (R50) -/

theorem State.writesReported_one (s : State) (x : Physical) (w : Word) :
    s.writesReported [(x, w)] = ((s.writeWord x w).observe x w) := by
  simp [State.writesReported, State.writeReported]

theorem State.writesReported_faults (s : State) (ws : List (Physical × Word)) :
    (s.writesReported ws).1.faults = s.collected (s.writesReported ws).2 := by
  induction ws generalizing s with
  | nil => rfl
  | cons xw ws ih =>
    have hobserve := (s.writeWord xw.1 xw.2).observe_faults xw.1 xw.2
    have htiming := ((s.writeWord xw.1 xw.2).collectsTo_observe xw.1 xw.2).2.1
    simp only [State.writesReported, State.writeReported]
    rw [ih, State.collected_append]
    apply State.collected_congr
    · rw [hobserve]
      apply State.collected_congr <;> rfl
    · exact htiming

theorem State.writesReported_overflows (s : State) (ws : List (Physical × Word)) :
    ∀ o ∈ (s.writesReported ws).2, o.1 = .indexOverflow := by
  induction ws generalizing s with
  | nil => simp [State.writesReported]
  | cons xw ws ih =>
    intro o ho
    rcases List.mem_append.mp ho with ho | ho
    · exact State.observe_overflows _ _ _ o ho
    · exact ih _ o ho

/-- The links after the reports of a unit's writes, with links free for all of them. -/
theorem State.writesReported_links {ws : List (Physical × Word)} (h : s.links.length + ws.length ≤ linkPoolSize) :
    (s.writesReported ws).1.links = ws.foldl (fun ls xw => s.linksReported ls xw.1 xw.2) s.links := by
  induction ws generalizing s with
  | nil => rfl
  | cons xw ws ih =>
    simp only [List.length_cons] at h
    obtain ⟨-, hframe, -, hlength⟩ := State.observe_of_free (s := s.writeWord xw.1 xw.2) xw.1 xw.2
      (by simp only [State.writeWord_links]; omega)
    have hlinks := State.observe_links (s := s.writeWord xw.1 xw.2) (by simp only [State.writeWord_links]; omega)
      xw.1 xw.2
    have hnamed : ((s.writeWord xw.1 xw.2).observe xw.1 xw.2).1.namedTalker = s.namedTalker :=
      State.namedTalker_congr (by rw [hframe]; rfl) (by rw [hframe]; rfl)
    simp only [State.writeWord_links] at hlength
    simp only [State.writesReported, State.writeReported, List.foldl_cons]
    rw [ih (by omega), hlinks]
    have hwrite : (s.writeWord xw.1 xw.2).namedTalker = s.namedTalker := State.namedTalker_congr rfl rfl
    rw [State.linksReported_congr hwrite, State.writeWord_links]
    congr 1
    funext ls yw
    exact State.linksReported_congr hnamed ls yw.1 yw.2

/-- The words of the store after the writes of a unit that writes one word at several addresses. -/
theorem State.readWord_writesReported (hs : s.storeSound) (xs : List Physical) (w : Word) (y : Physical) :
    (s.writesReported (xs.map (fun x => (x, w)))).1.readWord y = if y ∈ xs then w else s.readWord y := by
  induction xs generalizing s with
  | nil => simp [State.writesReported]
  | cons x xs ih =>
    have hwrite := s.storeSound_writeWord x w hs
    have hobserve : ((s.writeWord x w).observe x w).1.store = (s.writeWord x w).store := by rw [State.observe_eq]
    have hread : ((s.writeWord x w).observe x w).1.readWord y = (s.writeWord x w).readWord y := by
      rw [State.readWord, hobserve]; rfl
    simp only [List.map_cons, State.writesReported, State.writeReported]
    rw [ih (s := ((s.writeWord x w).observe x w).1) (by rw [State.storeSound, hobserve]; exact hwrite), hread,
      State.readWord_writeWord x y w hs]
    by_cases hy : y = x
    · simp [hy]
    · simp [hy]

/-! ## The sources after occurrences (R180) -/

/-- What the collector holds for a source after occurrences: those of the source, in order. -/
theorem State.source_collected (s : State) (os : List Occurrence) (src : FaultSource) :
    ({ s with faults := s.collected os } : State).source src =
      (os.filter (fun o => o.1 = src)).foldl (fun f o => f.occurred o.2) (s.source src) := by
  induction os generalizing s with
  | nil => rfl
  | cons o os ih =>
    have hrest := ih (s.recordOccurrence o.1 o.2)
    rw [State.source_recordOccurrence] at hrest
    refine Eq.trans ?_ (hrest.trans ?_)
    · rfl
    · by_cases ho : src = o.1
      · rw [if_pos ho, List.filter_cons_of_pos (by simp [ho]), List.foldl_cons, ho]
      · rw [if_neg ho, List.filter_cons_of_neg (by simpa using Ne.symm ho)]

/-- Occurrences of other sources leave a source. -/
theorem State.source_collected_of_other {os : List Occurrence} {src : FaultSource} (h : ∀ o ∈ os, o.1 ≠ src) :
    ({ s with faults := s.collected os } : State).source src = s.source src := by
  rw [State.source_collected, List.filter_eq_nil_iff.mpr (by simpa using h), List.foldl_nil]

/-- Fallback occurs at FALLBACK_BLOCKED alone (R154). -/
theorem State.source_blockedBy (u : State) (os : List Occurrence) : ∀ o ∈ os.flatMap u.blockedBy, o.1 = .fallbackBlocked := by
  intro o ho
  obtain ⟨o', -, ho⟩ := List.mem_flatMap.mp ho
  unfold State.blockedBy at ho
  split at ho
  · split at ho
    · rw [List.mem_singleton.mp ho]
    · exact absurd ho (by simp)
  · exact absurd ho (by simp)

/-- Every source but FALLBACK_BLOCKED is left by the dispatch of occurrences. -/
theorem State.fallsBack.source {u v : State} {ps : List Port} {os : List Occurrence} {src : FaultSource}
    (h : u.fallsBack v ps (os.flatMap u.blockedBy)) (hsrc : src ≠ .fallbackBlocked) : v.source src = u.source src := by
  obtain ⟨-, -, -, -, hfaults, -⟩ := h
  rw [← State.source_collected_of_other (s := u) fun o ho heq =>
      hsrc (heq.symm.trans (State.source_blockedBy u os o ho)),
    ← hfaults]
  rfl

theorem TrunkRecord.fellBack_indexLost (r : TrunkRecord) : r.fellBack.indexLost = r.indexLost := by
  cases h : r.inRoll with
  | false => rw [r.fellBack_of_not_inRoll h]
  | true => rcases TrunkRecord.inRoll_cases h with h | h | ⟨h, hc⟩ <;> simp [TrunkRecord.fellBack, *]

/-- No record is lost or gathered by fallback. -/
theorem State.fallsBack.indexLost {u v : State} {ps : List Port} {os : List Occurrence} (h : u.fallsBack v ps os)
    (q : Port) : (v.trunk q).indexLost = (u.trunk q).indexLost := by
  rw [h.1 q]
  split
  · exact (u.trunk q).fellBack_indexLost
  · rfl

/-! ## Cursors (R92, R93) -/

theorem successorIn_eq (ls : List Link) (x : Physical) :
    (successorIn ls x).map Link.listener = (((ls.map Link.listener).dropWhile (fun y => y != x)).drop 1).head? := by
  induction ls with
  | nil => rfl
  | cons l ls ih =>
    by_cases h : l.listener = x
    · cases ls <;> simp [successorIn, h]
    · simp [successorIn, h, ih]

/-- Where the cursor of an INDEX-mode sweep goes (R92, R93). -/
theorem State.nextLink_eq (s : State) (p : Port) (k : Slot) (x : Physical) :
    s.nextLink p k x = nextOfLists s.links p k x := by
  have hsuccessor := successorIn_eq (s.links.filter (fun l => l.talker = { port := p, slot := k })) x
  have hlist : s.talkerList { port := p, slot := k } = s.links.filter (fun l => l.talker = { port := p, slot := k }) := rfl
  unfold State.nextLink nextOfLists
  rw [hlist, listOrder_eq, State.firstLink_eq, rollOrderAfter]
  dsimp only
  generalize successorIn _ x = next at hsuccessor
  generalize ((List.map Link.listener _).dropWhile _).drop 1 = rest at hsuccessor
  cases next with
  | none =>
    cases rest with
    | nil => rfl
    | cons y rest => simp at hsuccessor
  | some l =>
    cases rest with
    | nil => simp at hsuccessor
    | cons y rest =>
      obtain rfl : l.listener = y := by simpa using hsuccessor
      rfl

/-- A sweep that the engine would not begin or switch stays as it is at the end of an event (R79). -/
theorem State.mem_sweeps_resume {sw : Sweep} (hsw : sw ∈ s.sweeps) (hbegun : s.begun sw = sw) :
    sw ∈ s.resume.sweeps := by
  unfold State.resume
  split
  · exact hsw
  · rw [State.arbitrate_eq, State.engine]
    split
    · next e _ =>
      refine List.mem_map.mpr ⟨sw, hsw, ?_⟩
      split
      · next he => rw [← he, hbegun]
      · rfl
    · exact hsw

theorem State.begun_of_not_lost {sw : Sweep} {c : Option (Slot × Physical)} (hcursor : sw.cursor = .index c)
    (h : (s.trunk sw.trunk).indexLost = false) : s.begun sw = sw := by
  unfold State.begun
  rw [hcursor, h]
  cases sw.kind <;> rfl

end Sys2Proof.Machine
end

section
/-! SUPPORT. PROCESSOR_WRITE (O9). -/

namespace Sys2Proof.Machine

variable {s t : State}

/-! ## Landing sets and sources (R11, R12) -/

theorem State.landingSet_of_native {a : Listed} (h : (s.phase (portOf a)).outputState = .native) :
    s.landingSet a = [copperForm a] := by
  simp only [State.landingSet, h]

theorem State.landingSet_of_split {a : Listed} {b : Binding} (h : (s.phase (portOf a)).outputState = .split)
    (hb : (s.trunk (portOf a)).binding = some b) :
    s.landingSet a = [copperForm a, fibreForm b.fibre b.map (slotOf a)] := by
  simp only [State.landingSet, h, State.fibreFormOf, hb, Option.map_some]

theorem State.landingSet_of_moved {a : Listed} {b : Binding} (h : (s.phase (portOf a)).outputState = .moved)
    (hb : (s.trunk (portOf a)).binding = some b) : s.landingSet a = [fibreForm b.fibre b.map (slotOf a)] := by
  simp only [State.landingSet, h, State.fibreFormOf, hb, Option.map_some]

theorem State.landingSet_length_le (s : State) (a : Listed) : (s.landingSet a).length ≤ 2 := by
  unfold State.landingSet
  split <;> simp

theorem State.writeSource_of_fibre {m : Mode} {n : Listed} {b : Binding} (hm : m.listens = true)
    (hphase : (s.phase (portOf n)).talkerState = .fibre) (hb : (s.trunk (portOf n)).binding = some b) :
    s.writeSource m n = fibreForm b.fibre b.map (slotOf n) := by
  simp only [State.writeSource, hm, if_true, hphase, State.fibreFormOf, hb, Option.map_some, Option.getD_some]

theorem State.writeSource_of_copper {m : Mode} {n : Listed}
    (h : ¬ (m.listens = true ∧ (s.phase (portOf n)).talkerState = .fibre)) : s.writeSource m n = copperForm n := by
  unfold State.writeSource
  split
  · next hm =>
    split
    · next hphase => exact absurd ⟨hm, hphase⟩ h
    · rfl
  · rfl

/-! ## The end of a processor write -/

/-- The reports of a processor write. -/
def State.writeReports (s : State) (a : Listed) (w : Word) : State × List Occurrence :=
  s.writesReported (s.processorWrites a w)

/-- A processor write before the dispatch of its overflows: its reports, READY and the report to the channel. -/
def State.written (s : State) (a : Listed) (w : Word) : State :=
  { (s.writeReports a w).1 with
    port := { s.port with cycle := none }
    channel := (s.reportStoreCycle a false).channel }

theorem State.runProcessorWrite_eq (s : State) (a : Listed) (w : Word) :
    s.runProcessorWrite a w = (s.written a w).dispatchAll (s.writeReports a w).2 := by
  unfold State.runProcessorWrite State.written State.writeReports State.giveReady
  dsimp only
  rw [State.reportStoreCycle_eq, State.reportStoreCycle_channel, State.reportStoreCycle_channel,
    State.writesReported_channel, State.writesReported_straps, State.writesReported_port]

/-- The end of a processor write: its overflows dispatched. -/
theorem exec_processorWrite {a : Listed} {w : Word} (h : s.arbiter.inProgress = some (.processor (.write a w))) :
    ∃ t ps, exec .processorWrite s = .next t ∧
      (s.written a w).fallsBack t ps ((s.writeReports a w).2.flatMap (s.written a w).blockedBy) ∧
      ((s.writeReports a w).2 = [] → (s.written a w).resumed t) ∧
      t = ({ (s.written a w).dispatchAll (s.writeReports a w).2 with
              arbiter := { ((s.written a w).dispatchAll (s.writeReports a w).2).arbiter with
                inProgress := none } } : State).resume := by
  have hend : s.finishUnit = { s.runProcessorWrite a w with
      arbiter := { (s.runProcessorWrite a w).arbiter with inProgress := none } } := by
    simp only [State.finishUnit, State.atUnitEnd, State.atBoundary, h, State.moveCursorOf, State.runUnit]
  obtain ⟨t, hexec, ht⟩ := exec_processorRow h
  have ht' : t = s.finishUnit.resume := (Host.Outcome.next.inj ((exec_row h).symm.trans hexec)).symm
  have hrun : s.runUnit (.processor (.write a w)) = (s.written a w).dispatchAll (s.writeReports a w).2 :=
    s.runProcessorWrite_eq a w
  rw [hrun] at ht
  have hall := ((State.fallsBack_refl (s.written a w)).dispatchAll (s.writeReports a w).2).of_resumed ht
  refine ⟨t, _, hexec, hall, fun hnone => ?_, ?_⟩
  · rw [hnone] at ht
    exact ht
  · rw [ht', hend, State.runProcessorWrite_eq]

/-- A processor write keeps these parts of the state (R38). -/
theorem State.written_kept (s : State) (a : Listed) (w : Word) :
    (s.written a w).straps = s.straps ∧ (s.written a w).timing = s.timing ∧ (s.written a w).image = s.image ∧
      (s.written a w).fibreTable = s.fibreTable ∧ (s.written a w).due = s.due ∧ (s.written a w).draws = s.draws ∧
      (s.written a w).pending = s.pending := by
  have hreports := s.writesReported_eq (s.processorWrites a w)
  refine ⟨?_, ?_, ?_, ?_, ?_, ?_, ?_⟩ <;> (rw [State.written, State.writeReports, hreports])

/-- A fall-back keeps the parts that are not the records' own. -/
theorem State.fallsBack.kept {u v : State} {ps : List Port} {os : List Occurrence} (h : u.fallsBack v ps os) :
    v.straps = u.straps ∧ v.port = u.port ∧ v.store = u.store ∧ v.timing = u.timing ∧ v.image = u.image ∧
      v.fibreTable = u.fibreTable ∧ v.links = u.links ∧ v.due = u.due ∧ v.draws = u.draws ∧ v.pending = u.pending := by
  obtain ⟨-, -, -, -, -, hframe⟩ := h
  generalize v.trunks = trunks at hframe
  generalize v.armedList = armed at hframe
  generalize v.sweeps = sweeps at hframe
  generalize v.link = link at hframe
  generalize v.faults = faults at hframe
  generalize v.arbiter = arbiter at hframe
  subst hframe
  exact ⟨rfl, rfl, rfl, rfl, rfl, rfl, rfl, rfl, rfl, rfl⟩

/-- A processor write with links free for its landing set raises nothing and changes no record (R64, R65). -/
theorem State.written_of_free {a : Listed} {w : Word} (hroom : s.links.length + 2 ≤ linkPoolSize) :
    (s.writeReports a w).2 = [] ∧ (s.written a w).trunks = s.trunks ∧ (s.written a w).faults = s.faults ∧
      (s.written a w).link = s.link ∧ (s.written a w).armedList = s.armedList ∧
      (s.written a w).sweepQueue = s.sweepQueue ∧
      (s.written a w).links =
        (s.landingSet a).foldl (fun ls x => s.linksReported ls x (s.translateWrite w)) s.links := by
  have hlength : s.links.length + (s.processorWrites a w).length ≤ linkPoolSize := by
    have := s.landingSet_length_le a
    rw [State.processorWrites, List.length_map]
    omega
  obtain ⟨hnone, hfree, hqueue⟩ := State.writesReported_of_free _ hlength
  have hlinks := State.writesReported_links hlength
  rw [State.processorWrites, List.foldl_map] at hlinks
  have hfree : (s.writeReports a w).1 = _ := hfree
  refine ⟨hnone, ?_, ?_, ?_, ?_, hqueue, hlinks⟩ <;> rw [State.written, hfree]

/-- The reports of a write that lands on one address. -/
theorem State.writeReports_one {a : Listed} {w : Word} {x : Physical} (hland : s.landingSet a = [x]) :
    s.writeReports a w = (s.writeWord x (s.translateWrite w)).observe x (s.translateWrite w) := by
  rw [State.writeReports, State.processorWrites, hland, List.map_singleton, State.writesReported_one]

/-- A write that names a talker when no link is free overflows the talker's trunk (R67). -/
theorem State.written_of_full {a : Listed} {w : Word} {x : Physical} {k : Talker} (hland : s.landingSet a = [x])
    (hnamed : s.namedTalker (s.translateWrite w) = some k) (hx : s.linkAt x = none)
    (hfull : linkPoolSize ≤ s.links.length) :
    (s.written a w).links = s.linksWithout k.port ∧ ((s.written a w).trunk k.port).indexLost = true ∧
      (s.written a w).source .indexOverflow = (s.source .indexOverflow).occurred (some k.port) := by
  have hoverflow : s.writeReports a w = (s.writeWord x (s.translateWrite w)).overflow k.port := by
    rw [State.writeReports_one hland]
    exact State.observe_of_full hx hnamed hfull
  refine ⟨?_, ?_, ?_⟩
  · change (s.writeReports a w).1.links = _
    rw [hoverflow, State.overflow, State.recordOccurrence_links]
    rfl
  · change ((s.writeReports a w).1.trunk k.port).indexLost = _
    rw [hoverflow, State.overflow, State.trunk, State.recordOccurrence_trunks]
    change (((s.writeWord x (s.translateWrite w)).setIndexLost k.port true).trunk k.port).indexLost = true
    rw [State.setIndexLost, State.trunk_setTrunk, if_pos rfl]
  · change (s.writeReports a w).1.source .indexOverflow = _
    rw [hoverflow, State.overflow, State.source_recordOccurrence, if_pos rfl]
    rfl

/-- An INDEX-mode sweep that stands at a link which a write removes takes its successor (R93). -/
theorem State.written_of_removed {a : Listed} {w : Word} {x : Physical} {k : Talker} {sw : Sweep}
    (hland : s.landingSet a = [x]) (hx : s.linkAt x = some { talker := k, listener := x })
    (hnamed : s.namedTalker (s.translateWrite w) ≠ some k) (hroom : s.links.length < linkPoolSize)
    (hsw : sw ∈ s.sweeps) (htrunk : sw.trunk = k.port) (hcursor : sw.cursor = .index (some (k.slot, x))) :
    (s.writeReports a w).2 = [] ∧ (s.written a w).trunks = s.trunks ∧
      { sw with cursor := .index (nextOfLists s.links k.port k.slot x) } ∈ (s.written a w).sweeps := by
  obtain ⟨hnone, hfree, -, -⟩ := State.observe_of_free (s := s.writeWord x (s.translateWrite w)) x
    (s.translateWrite w) hroom
  have hsweeps := State.observe_sweeps_removed (s := s.writeWord x (s.translateWrite w))
    (l := { talker := k, listener := x }) hx hnamed
  rw [← State.writeReports_one hland] at hnone hfree hsweeps
  refine ⟨hnone, ?_, ?_⟩
  · change (s.writeReports a w).1.trunks = _
    rw [hfree]
    rfl
  · change _ ∈ (s.writeReports a w).1.sweeps
    rw [hsweeps]
    refine List.mem_map.mpr ⟨sw, hsw, ?_⟩
    have hnext := (s.writeWord x (s.translateWrite w)).nextLink_eq k.port k.slot x
    simp only [State.cursorAfterRemoval, htrunk, hcursor, if_true, hnext, decide_true, Bool.and_self]
    rfl

/-- Settles O9. -/
theorem processorWriteLandsOnItsLandingSet : Obligations.ProcessorWriteLandsOnItsLandingSet := by
  intro s a w hstore hwrite
  obtain ⟨t, ps, hexec, hfalls, hquiet, hresume⟩ := exec_processorWrite hwrite
  obtain ⟨hstraps, hport, hstored, htiming, himage, hfibre, hlinks, hdue, hdraws, hpending⟩ := hfalls.kept
  obtain ⟨hstraps', htiming', himage', hfibre', hdue', hdraws', hpending'⟩ := s.written_kept a w
  have hlistens := (listedMode w).listens_iff
  refine ⟨t, hexec, fun x => ?_, fun hphase => State.landingSet_of_native ?_,
    fun b hb => ⟨fun hphase => State.landingSet_of_split ?_ hb, fun hphase => State.landingSet_of_moved ?_ hb⟩, ?_, hport,
    hstraps.trans hstraps', htiming.trans htiming', himage.trans himage', hfibre.trans hfibre', hdue.trans hdue',
    hdraws.trans hdraws', hpending.trans hpending', fun hroom => ?_, fun x k hland hnamed hx hfull => ?_,
    fun x k sw hland hx hnamed hroom hlost hsw htrunk hcursor => ?_⟩
  · rw [State.readWord, hstored]
    exact State.readWord_writesReported hstore (s.landingSet a) (s.translateWrite w) x
  · cases hp : s.phase (portOf a) <;> simp [hp] at hphase <;> rfl
  · cases hp : s.phase (portOf a) <;> simp [hp] at hphase <;> rfl
  · cases hp : s.phase (portOf a) <;> simp [hp] at hphase <;> rfl
  · intro m n inFibre
    have htalker : (s.phase (portOf n)).talkerState = .fibre ↔
        s.phase (portOf n) ∈ [Phase.rolling, .rolled, .releasing, .migrated] := by
      cases s.phase (portOf n) <;> simp [Phase.talkerState]
    refine ⟨fun b hin hb => ?_, fun hin => ?_⟩
    · exact congrArg (physicalWord m) (State.writeSource_of_fibre (hlistens.mpr hin.1) (htalker.mpr hin.2) hb)
    · exact congrArg (physicalWord m) (State.writeSource_of_copper fun h => hin ⟨hlistens.mp h.1, htalker.mp h.2⟩)
  · obtain ⟨hnone, htrunks', hfaults', hlink', harmed', hqueue', hlinks'⟩ := State.written_of_free (a := a) (w := w) hroom
    obtain ⟨hrest, hseen⟩ := hquiet hnone
    have hkept : t.trunks = (s.written a w).trunks ∧ t.faults = (s.written a w).faults ∧
        t.link = (s.written a w).link ∧ t.armedList = (s.written a w).armedList := by
      refine ⟨?_, ?_, ?_, ?_⟩ <;> rw [hrest]
    obtain ⟨htrunks, hfaults, hlink, harmed⟩ := hkept
    exact ⟨htrunks.trans htrunks', hfaults.trans hfaults', hlink.trans hlink', harmed.trans harmed', hseen.trans hqueue',
      hlinks.trans hlinks'⟩
  · obtain ⟨hlinks', hlost', hsource'⟩ := State.written_of_full hland hnamed hx hfull
    exact ⟨hlinks.trans hlinks', (hfalls.indexLost k.port).trans hlost', (hfalls.source (by simp)).trans hsource'⟩
  · obtain ⟨hnone, htrunks, hmem⟩ := State.written_of_removed hland hx hnamed hroom hsw htrunk hcursor
    rw [hresume, hnone]
    refine State.mem_sweeps_resume hmem (State.begun_of_not_lost rfl ?_)
    change ((s.written a w).trunk sw.trunk).indexLost = false
    rw [State.trunk, htrunks, htrunk]
    exact hlost

end Sys2Proof.Machine
end

section
/-! SUPPORT. Store units of sweeps: what the row of a sweep unit does, in the order of R85, for the units of O36 to
O39. -/

namespace Sys2Proof.Machine

variable {s t u : State} {p : Port} {sw : Sweep} {b : Binding} {x : Physical} {w : Word}

/-! ## The sweep of a trunk -/

theorem State.trunk_of_sweepOf (h : s.sweepOf p = some sw) : sw.trunk = p := by
  simpa using List.find?_some h

/-- A trunk's sweep after a change of each sweep. -/
theorem State.sweepOf_map {f : Sweep → Sweep} (hf : ∀ sw, (f sw).trunk = sw.trunk) (s : State) (p : Port) :
    ({ s with sweeps := s.sweeps.map f } : State).sweepOf p = (s.sweepOf p).map f := by
  simp only [State.sweepOf, List.find?_map, Function.comp_def, hf]

/-- The trunks of a queue are seen (R96). -/
theorem State.map_trunk_sweeps (s : State) : s.sweeps.map Sweep.trunk = s.sweepQueue.map (fun e => e.2.1) := by
  simp only [State.sweepQueue, List.map_map]
  rfl

theorem State.begun_trunk (s : State) (sw : Sweep) : (s.begun sw).trunk = sw.trunk :=
  congrArg (fun e : SweepKind × Port × Nat => e.2.1) (s.begun_seen sw)

/-- A trunk's sweep that the engine would not begin or switch stays as it is at the end of an event (R79). -/
theorem State.sweepOf_resume (h : s.sweepOf p = some sw) (hbegun : s.begun sw = sw) : s.resume.sweepOf p = some sw := by
  unfold State.resume
  split
  · exact h
  · have harbitrate : s.engine.arbitrate.sweepOf p = s.engine.sweepOf p := by rw [State.arbitrate_eq]; rfl
    rw [harbitrate, State.engine]
    split
    · next e _ =>
      rw [State.sweepOf_map, h, Option.map_some]
      · split
        · next he => rw [← he, hbegun]
        · rfl
      · intro old
        split
        · next he => rw [he, State.begun_trunk]
        · rfl
    · exact h

/-! ## Reports that leave the sweep's cursor and raise nothing -/

/-- A report of a word that names no talker, or with a link free: it raises nothing and changes no record. -/
theorem State.observe_quiet (h : s.namedTalker w = none ∨ s.links.length < linkPoolSize) :
    (s.observe x w).2 = [] ∧
      (s.observe x w).1 = { s with links := (s.observe x w).1.links, sweeps := (s.observe x w).1.sweeps } ∧
      (s.observe x w).1.sweepQueue = s.sweepQueue ∧
      (s.observe x w).1.links = s.linksReported s.links x w := by
  rcases h with h | h
  · have hlist : s.links.find? (fun l => l.listener = x) = s.linkAt x := rfl
    cases hx : s.linkAt x with
    | none => simp only [State.observe, State.linksReported, hlist, hx, h, true_and]
    | some l =>
      have hlistener : l.listener = x := by simpa using List.find?_some hx
      simp only [State.observe, State.linksReported, hlist, hx, h, State.removeLink_sweepQueue, true_and]
      simp only [State.removeLink, hlistener, true_and]
  · obtain ⟨hnone, hframe, hqueue, -⟩ := State.observe_of_free x w h
    exact ⟨hnone, hframe, hqueue, State.observe_links h x w⟩

/-- The links of which none has a listener are left when that listener's link goes. -/
theorem State.linksReported_of_unnamed (h : s.namedTalker w = none) (x : Physical) :
    s.linksReported s.links x w = s.links.filter (fun l => l.listener != x) := by
  unfold State.linksReported
  rw [h]
  cases hx : s.links.find? (fun l => l.listener = x) with
  | some l => rfl
  | none =>
    refine (List.filter_eq_self.mpr fun l hl => ?_).symm
    simpa using List.find?_eq_none.mp hx l hl

/-- A report keeps a trunk's sweep: its cursor is not that of a list, or no link goes. -/
theorem State.sweepOf_observe (h : s.sweepOf p = some sw)
    (hkept : (∀ c, sw.cursor ≠ .index c) ∨ ∀ l, s.linkAt x = some l → s.namedTalker w = some l.talker) :
    (s.observe x w).1.sweepOf p = some sw := by
  by_cases hlinks : ∀ l, s.linkAt x = some l → s.namedTalker w = some l.talker
  · rw [State.sweepOf, State.observe_sweeps_kept hlinks]
    exact h
  · have hcursor := hkept.resolve_right hlinks
    obtain ⟨l, hx, hne⟩ := State.link_goes hlinks
    have hmap := State.sweepOf_map (f := s.cursorAfterRemoval l.talker l.listener)
      (fun sw => congrArg (fun e : SweepKind × Port × Nat => e.2.1) (s.cursorAfterRemoval_seen _ _ sw)) s p
    rw [State.sweepOf, State.observe_sweeps_removed hx hne]
    refine hmap.trans ?_
    rw [h, Option.map_some]
    cases hc : sw.cursor <;> simp [State.cursorAfterRemoval, hc]
    exact absurd hc (hcursor _)

/-- Every trunk's sweep is seen after a report as before it. -/
theorem State.observe_sweepQueue (s : State) (x : Physical) (w : Word) :
    (s.observe x w).1.sweepQueue = s.sweepQueue := by
  by_cases hlinks : ∀ l, s.linkAt x = some l → s.namedTalker w = some l.talker
  · rw [State.sweepQueue, State.observe_sweeps_kept hlinks]
    rfl
  · obtain ⟨l, hx, hne⟩ := State.link_goes hlinks
    rw [State.sweepQueue, State.observe_sweeps_removed hx hne, List.map_map]
    exact List.map_congr_left fun sw _ => s.cursorAfterRemoval_seen _ _ sw

/-! ## The accesses of a sweep unit (R85 (2)) -/

theorem State.sweepAccesses_of_write (hkind : sw.kind ≠ .census) :
    s.sweepAccesses sw = s.writesReported (s.sweepWrite sw).toList := by
  unfold State.sweepAccesses
  split
  · next hc _ => exact absurd hc hkind
  · rfl

theorem State.sweepAccesses_of_census (hkind : sw.kind = .census) (hx : sw.readsAt = some x) :
    s.sweepAccesses sw = s.censusRead sw.trunk x (s.readWord x) := by
  simp only [State.sweepAccesses, hkind, hx]

theorem State.censusRead_cases (s : State) (p : Port) (x : Physical) (w : Word) :
    s.censusRead p x w = (s, []) ∨ ∃ t, s.namedTalker w = some t ∧ s.censusRead p x w = s.addLink t x := by
  unfold State.censusRead
  split
  · exact .inl rfl
  · split
    · next t ht _ =>
      split
      · exact .inr ⟨t, ht, rfl⟩
      · exact .inl rfl
    · exact .inl rfl

theorem State.sweepAccesses_faults (s : State) (sw : Sweep) :
    (s.sweepAccesses sw).1.faults = s.collected (s.sweepAccesses sw).2 := by
  unfold State.sweepAccesses
  split
  · rcases s.censusRead_cases sw.trunk _ _ with h | ⟨t, -, h⟩
    · rw [h]; rfl
    · rw [h]; exact s.addLink_faults t _
  · exact s.writesReported_faults _

theorem State.sweepAccesses_overflows (s : State) (sw : Sweep) :
    ∀ o ∈ (s.sweepAccesses sw).2, o.1 = .indexOverflow := by
  unfold State.sweepAccesses
  split
  · rcases s.censusRead_cases sw.trunk _ _ with h | ⟨t, -, h⟩
    · rw [h]; simp
    · rw [h]
      intro o ho
      rw [s.addLink_overflows t _ o ho]
  · exact s.writesReported_overflows _

theorem State.sweepAccesses_sweepQueue (s : State) (sw : Sweep) :
    (s.sweepAccesses sw).1.sweepQueue = s.sweepQueue := by
  unfold State.sweepAccesses
  split
  · rcases s.censusRead_cases sw.trunk _ _ with h | ⟨t, -, h⟩
    · rw [h]
    · rw [h, State.addLink_eq]; rfl
  · cases s.sweepWrite sw with
    | none => rfl
    | some xw =>
      rw [Option.toList_some, State.writesReported_one, State.observe_sweepQueue]
      rfl

/-! ## The end of a sweep unit (R85) -/

/-- A queue with one more unit done of the sweep of trunk `p`. -/
def countedAt (p : Port) (sw : Sweep) : Sweep := if sw.trunk = p then sw.counted else sw

theorem countedAt_trunk (p : Port) (sw : Sweep) : (countedAt p sw).trunk = sw.trunk := by
  unfold countedAt
  split <;> rfl

/-- The occurrences of a sweep unit: its overflows, and a read that failed (R49, R67). -/
def State.sweepFaults (s : State) (p : Port) (sw : Sweep) : List Occurrence :=
  (s.sweepAccesses sw).2 ++ if s.sweepReadFailed sw then [(.storeParity, some p)] else []

/-- A sweep unit up to the dispatch of its faults: its accesses, the unit counted, and its occurrences taken. -/
def State.unitTaken (s : State) (p : Port) (sw : Sweep) : State :=
  { (s.sweepAccesses sw).1 with
    sweeps := (s.sweepAccesses sw).1.sweeps.map (countedAt p)
    faults := s.collected (s.sweepFaults p sw) }

/-- A trunk's only sweep counted in its place. -/
theorem State.setSweep_counted {now : Sweep} (hnow : s.sweepOf p = some now)
    (hnodup : (s.sweeps.map Sweep.trunk).Nodup) :
    s.setSweep now.counted = { s with sweeps := s.sweeps.map (countedAt p) } := by
  have htrunk := State.trunk_of_sweepOf hnow
  have hcounted : now.counted.trunk = now.trunk := rfl
  unfold State.setSweep
  congr 1
  refine List.map_congr_left fun old hold => ?_
  rw [countedAt, hcounted, htrunk]
  by_cases hp : old.trunk = p
  · have hsame : old = now :=
      eq_of_map_nodup hnodup hold (List.mem_of_find?_eq_some hnow) (hp.trans htrunk.symm)
    rw [if_pos hp, if_pos hp, hsame]
  · rw [if_neg hp, if_neg hp]

theorem State.runSweepUnit_eq (hsw : s.sweepOf p = some sw) (hnodup : (s.sweeps.map Sweep.trunk).Nodup) :
    s.runSweepUnit p = (s.unitTaken p sw).dispatchAll (s.sweepFaults p sw) := by
  have hqueue := s.sweepAccesses_sweepQueue sw
  have hnodup' : ((s.sweepAccesses sw).1.sweeps.map Sweep.trunk).Nodup := by
    rwa [State.map_trunk_sweeps, hqueue, ← State.map_trunk_sweeps]
  have hmem : p ∈ (s.sweepAccesses sw).1.sweeps.map Sweep.trunk := by
    rw [State.map_trunk_sweeps, hqueue, ← State.map_trunk_sweeps]
    exact List.mem_map.mpr ⟨sw, List.mem_of_find?_eq_some hsw, State.trunk_of_sweepOf hsw⟩
  obtain ⟨now, hnow⟩ : ∃ now, (s.sweepAccesses sw).1.sweepOf p = some now := by
    obtain ⟨old, hold, htrunk⟩ := List.mem_map.mp hmem
    exact Option.isSome_iff_exists.mp (List.find?_isSome.mpr ⟨old, hold, by simpa using htrunk⟩)
  have hfaults := s.sweepAccesses_faults sw
  have htiming := (s.collectsTo_sweepAccesses sw).2.1
  have htaken : s.unitTaken p sw =
      if s.sweepReadFailed sw then
        ({ (s.sweepAccesses sw).1 with sweeps := (s.sweepAccesses sw).1.sweeps.map (countedAt p) } :
          State).recordOccurrence .storeParity (some p)
      else { (s.sweepAccesses sw).1 with sweeps := (s.sweepAccesses sw).1.sweeps.map (countedAt p) } := by
    unfold State.unitTaken State.sweepFaults
    cases s.sweepReadFailed sw with
    | false => simp only [Bool.false_eq_true, if_false, List.append_nil, ← hfaults]
    | true =>
      have hparity : s.collected ((s.sweepAccesses sw).2 ++ [(.storeParity, some p)]) =
          (({ (s.sweepAccesses sw).1 with sweeps := (s.sweepAccesses sw).1.sweeps.map (countedAt p) } :
            State).recordOccurrence .storeParity (some p)).faults := by
        rw [State.collected_append, State.collected_singleton]
        apply State.faults_recordOccurrence_congr
        · exact hfaults.symm
        · exact htiming.symm
      rw [if_pos rfl, if_pos rfl, hparity]
      conv => rhs; rw [State.recordOccurrence_eq]
  rw [htaken, State.runSweepUnit, hsw]
  dsimp only
  rw [hnow]
  dsimp only
  rw [State.setSweep_counted hnow hnodup']
  unfold State.sweepFaults raiseInUnit
  cases s.sweepReadFailed sw <;> simp

/-- The end of a sweep unit that raised nothing: the next grant is decided with its cursor moved (R85 (3)). -/
def State.unitOver (s : State) (p : Port) (sw : Sweep) : State :=
  (({ s.unitTaken p sw with arbiter := { (s.unitTaken p sw).arbiter with inProgress := none } } :
    State).moveCursor sw.kind p).resume

/-- The row of a sweep unit ends it: its faults dispatched, its cursor moved, and the next grant decided (R85). -/
theorem exec_sweepRow (h : s.sweepUnit p sw b) :
    ∃ t ps, exec (StoreUnit.row (.sweep sw.kind p)) s = .next t ∧
      (s.unitTaken p sw).fallsBack t ps ((s.sweepFaults p sw).flatMap (s.unitTaken p sw).blockedBy) ∧
      (s.sweepFaults p sw = [] → t = s.unitOver p sw) := by
  obtain ⟨hunit, hsw, -, hnodup⟩ := h
  have hend : s.finishUnit = ({ (s.unitTaken p sw).dispatchAll (s.sweepFaults p sw) with
      arbiter := { ((s.unitTaken p sw).dispatchAll (s.sweepFaults p sw)).arbiter with inProgress := none } } :
        State).moveCursor sw.kind p := by
    simp only [State.finishUnit, State.atUnitEnd, State.atBoundary, hunit, State.moveCursorOf, State.runUnit,
      State.runSweepUnit_eq hsw hnodup]
  have hfree (v : State) : v.resumed { v with arbiter := { v.arbiter with inProgress := none } } := ⟨rfl, rfl⟩
  have hall := ((((State.fallsBack_refl (s.unitTaken p sw)).dispatchAll (s.sweepFaults p sw)).of_resumed
    (hfree _)).of_resumed (State.resumed_moveCursorOf _ (some (.sweep sw.kind p)))).of_resumed (State.resumed_resume _)
  refine ⟨s.finishUnit.resume, _, exec_row hunit, by rw [hend]; exact hall, fun hnone => ?_⟩
  · rw [hend, hnone]
    rfl

/-- What the collector holds for STORE_PARITY after a sweep unit (R49). -/
theorem State.source_storeParity_of_unit {ps : List Port}
    (h : (s.unitTaken p sw).fallsBack t ps ((s.sweepFaults p sw).flatMap (s.unitTaken p sw).blockedBy)) :
    t.source .storeParity =
      if s.sweepReadFailed sw then (s.source .storeParity).occurred (some p) else s.source .storeParity := by
  have hsource : (s.unitTaken p sw).source .storeParity =
      ({ s with faults := s.collected (s.sweepFaults p sw) } : State).source .storeParity := rfl
  have hoverflows : (s.sweepAccesses sw).2.filter (fun o => o.1 = .storeParity) = [] := by
    refine List.filter_eq_nil_iff.mpr fun o ho => ?_
    simp [s.sweepAccesses_overflows sw o ho]
  rw [h.source (by simp), hsource, State.source_collected, State.sweepFaults, List.filter_append, hoverflows]
  split <;> simp

/-- The words of the store after a sweep unit. -/
theorem State.readWord_of_unit {ps : List Port} {os : List Occurrence} (hs : s.storeSound)
    (h : (s.unitTaken p sw).fallsBack t ps os) (y : Physical) :
    t.readWord y = match s.sweepWrite sw with
      | some (x, w) => if y = x then w else s.readWord y
      | none => s.readWord y := by
  obtain ⟨-, -, hstore, -⟩ := h.kept
  have hread : t.readWord y = (s.sweepAccesses sw).1.readWord y := by
    rw [State.readWord, hstore]
    rfl
  rw [hread, State.readWord, State.sweepAccesses_store]
  cases s.sweepWrite sw with
  | none => rfl
  | some xw => exact State.readWord_writeWord xw.1 y xw.2 hs

theorem State.unitTaken_of_quiet (hnone : s.sweepFaults p sw = [])
    (hframe : (s.sweepAccesses sw).1 = { s with
      store := (s.sweepAccesses sw).1.store
      links := (s.sweepAccesses sw).1.links
      sweeps := (s.sweepAccesses sw).1.sweeps }) :
    s.unitTaken p sw = { s with
      store := (s.sweepAccesses sw).1.store
      links := (s.sweepAccesses sw).1.links
      sweeps := (s.sweepAccesses sw).1.sweeps.map (countedAt p) } := by
  rw [State.unitTaken, hnone, State.collected_nil, hframe]

/-- A sweep unit that raises nothing leaves all but the store, the links, the cursors and the arbiter, and is
counted. -/
theorem State.unitOver_frame (hnone : s.sweepFaults p sw = [])
    (hframe : (s.sweepAccesses sw).1 = { s with
      store := (s.sweepAccesses sw).1.store
      links := (s.sweepAccesses sw).1.links
      sweeps := (s.sweepAccesses sw).1.sweeps }) :
    s.unitOver p sw = { s with
        store := (s.unitOver p sw).store
        links := (s.unitOver p sw).links
        sweeps := (s.unitOver p sw).sweeps
        arbiter := (s.unitOver p sw).arbiter } ∧
      (s.unitOver p sw).sweepQueue = s.queueCounted p := by
  have htaken := State.unitTaken_of_quiet hnone hframe
  refine ⟨?_, ?_⟩
  · rw [State.unitOver, State.resume_eq, State.moveCursor, htaken]
  · have hmove (v : State) : (v.moveCursor sw.kind p).sweepQueue = v.sweepQueue :=
      State.moveCursorOf_sweepQueue v (some (.sweep sw.kind p))
    rw [State.unitOver, State.resume_sweepQueue, hmove, State.queueCounted, ← s.sweepAccesses_sweepQueue sw]
    simp only [State.sweepQueue, State.unitTaken, List.map_map]
    refine List.map_congr_left fun old _ => ?_
    by_cases hp : old.trunk = p
    · simp [countedAt, hp, Sweep.seen, Sweep.counted]
    · simp [countedAt, hp, Sweep.seen]

/-- A sweep unit that raises nothing moves the cursor of its sweep to `next`. -/
theorem State.unitOver_cursor {next : Cursor} (hnone : s.sweepFaults p sw = [])
    (hframe : (s.sweepAccesses sw).1 = { s with
      store := (s.sweepAccesses sw).1.store
      links := (s.sweepAccesses sw).1.links
      sweeps := (s.sweepAccesses sw).1.sweeps })
    (hsw : (s.sweepAccesses sw).1.sweepOf p = some sw)
    (hnext : ∀ v : State, v.links = (s.sweepAccesses sw).1.links →
      v.advanced sw.counted = { sw.counted with cursor := next })
    (hbegun : ∀ v : State, v.trunks = s.trunks →
      v.begun { sw.counted with cursor := next } = { sw.counted with cursor := next }) :
    (s.unitOver p sw).sweepOf p = some { sw.counted with cursor := next } := by
  have htrunk : sw.trunk = p := State.trunk_of_sweepOf hsw
  have htaken := State.unitTaken_of_quiet hnone hframe
  unfold State.unitOver
  let v : State := { s.unitTaken p sw with arbiter := { (s.unitTaken p sw).arbiter with inProgress := none } }
  change (v.moveCursor sw.kind p).resume.sweepOf p = _
  have hadvanced (old : Sweep) : (v.advanced old).trunk = old.trunk := by
    unfold State.advanced
    (repeat' split) <;> rfl
  have hcounted : v.sweepOf p = some sw.counted := by
    have hmap := State.sweepOf_map (countedAt_trunk p) (s.sweepAccesses sw).1 p
    rw [hsw, Option.map_some, countedAt, if_pos htrunk] at hmap
    exact hmap
  refine State.sweepOf_resume ?_ (hbegun _ ?_)
  · rw [State.moveCursor, State.sweepOf_map, hcounted, Option.map_some]
    · have hhere : (decide (sw.counted.trunk = p) && decide (sw.counted.kind = sw.kind)) = true := by
        simp [Sweep.counted, htrunk]
      rw [if_pos hhere]
      exact congrArg some (hnext v rfl)
    · intro old
      split
      · exact hadvanced old
      · rfl
  · change (s.unitTaken p sw).trunks = s.trunks
    rw [htaken]

/-- The end of a sweep unit that raises nothing and moves the cursor to `next`. -/
theorem State.unitEnded_of_quiet {next : Cursor} (ht : t = s.unitOver p sw) (hnone : s.sweepFaults p sw = [])
    (hframe : (s.sweepAccesses sw).1 = { s with
      store := (s.sweepAccesses sw).1.store
      links := (s.sweepAccesses sw).1.links
      sweeps := (s.sweepAccesses sw).1.sweeps })
    (hsw : (s.sweepAccesses sw).1.sweepOf p = some sw)
    (hnext : ∀ v : State, v.links = (s.sweepAccesses sw).1.links →
      v.advanced sw.counted = { sw.counted with cursor := next })
    (hbegun : ∀ v : State, v.trunks = s.trunks →
      v.begun { sw.counted with cursor := next } = { sw.counted with cursor := next }) :
    s.unitEnded t p sw next := by
  subst ht
  obtain ⟨hrest, hqueue⟩ := State.unitOver_frame hnone hframe
  exact ⟨hrest, hqueue, State.unitOver_cursor hnone hframe hsw hnext hbegun⟩

/-- The cursor of a slot goes on to the next (R78). -/
theorem State.advanced_slot {k : Nat} (h : sw.cursor = .slot k) (v : State) :
    v.advanced sw.counted = { sw.counted with cursor := .slot (k + 1) } := by
  have hc : sw.counted.cursor = .slot k := h
  simp only [State.advanced, hc]

theorem State.begun_slot (k : Nat) (sw : Sweep) (v : State) :
    v.begun { sw with cursor := .slot k } = { sw with cursor := .slot k } := by
  cases sw.kind <;> simp [State.begun]

end Sys2Proof.Machine
end

section
/-! SUPPORT. PREPARE_UNIT, RELEASE_UNIT, UNBRIDGE_UNIT (O36), BRIDGE_UNIT (O37) and CENSUS_UNIT (O38). -/

namespace Sys2Proof.Machine

variable {s t : State} {p : Port} {sw : Sweep} {b : Binding} {x : Physical} {w : Word}

/-- The idle word names no talker (R62). -/
theorem State.namedTalker_idleWord (s : State) : s.namedTalker idleWord = none := by
  rw [State.namedTalker, idleWord, physicalMode_physicalWord]
  rfl

theorem Fin.ofNat_val_slot (k : Slot) : Fin.ofNat 32 k.val = k := Fin.ext (Nat.mod_eq_of_lt k.isLt)

/-! ## Units that write one word (R87 to R91) -/

/-- A unit of a sweep at a slot that writes one word, of no talker or with a link free, and whose read did not fail: it
raises nothing, the word is reported, and the sweep goes on to the next slot. -/
theorem State.unitEnded_of_slot {k : Nat} (h : s.sweepUnit p sw b) (hkind : sw.kind ≠ .census)
    (hcursor : sw.cursor = .slot k) (hwrite : s.sweepWrite sw = some (x, w)) (hread : s.sweepReadFailed sw = false)
    (hquiet : s.namedTalker w = none ∨ s.links.length < linkPoolSize) :
    ∃ t, exec (StoreUnit.row (.sweep sw.kind p)) s = .next t ∧ s.unitEnded t p sw (.slot (k + 1)) ∧
      t.links = s.linksReported s.links x w := by
  have haccess : s.sweepAccesses sw = (s.writeWord x w).observe x w := by
    rw [State.sweepAccesses_of_write hkind, hwrite, Option.toList_some, State.writesReported_one]
  have hnamed : (s.writeWord x w).namedTalker = s.namedTalker := State.namedTalker_congr rfl rfl
  obtain ⟨hempty, hframe, -, hlinks⟩ := State.observe_quiet (s := s.writeWord x w) (x := x) (w := w)
    (by rwa [hnamed, State.writeWord_links])
  obtain ⟨-, hhere, -⟩ := id h
  have hsweep := State.sweepOf_observe (s := s.writeWord x w) (x := x) (w := w) (p := p) (sw := sw) hhere
    (.inl fun c => by rw [hcursor]; simp)
  rw [← haccess] at hempty hframe hlinks hsweep
  have hnone : s.sweepFaults p sw = [] := by simp [State.sweepFaults, hempty, hread]
  obtain ⟨t, ps, hexec, hfalls, hend⟩ := exec_sweepRow h
  obtain ⟨-, -, -, -, -, -, hkept, -⟩ := hfalls.kept
  refine ⟨t, hexec, ?_, ?_⟩
  · refine State.unitEnded_of_quiet (hend hnone) hnone ?_ hsweep (fun v _ => State.advanced_slot hcursor v)
      fun v _ => State.begun_slot _ _ v
    conv => lhs; rw [hframe]
    rw [haccess, State.observe_eq]
    rfl
  · refine hkept.trans (hlinks.trans ?_)
    rw [State.linksReported_congr hnamed]
    rfl

/-- A unit that writes the idle word at its slot. -/
theorem State.idlingUnit {k : Slot} (hs : s.storeSound) (h : s.sweepUnit p sw b) (hkind : sw.kind ≠ .census)
    (hcursor : sw.cursor = .slot k.val) (hwrite : s.sweepWrite sw = some (x, idleWord))
    (hread : s.sweepReadFailed sw = false) :
    ∃ t, exec (StoreUnit.row (.sweep sw.kind p)) s = .next t ∧
      (∀ y, t.readWord y = if y = x then idleWord else s.readWord y) ∧
      t.links = s.links.filter (fun l => l.listener != x) ∧ s.unitEnded t p sw (.slot (k.val + 1)) := by
  obtain ⟨t, ps, hexec, hfalls, -⟩ := exec_sweepRow h
  obtain ⟨t', hexec', hended, hlinks⟩ :=
    State.unitEnded_of_slot h hkind hcursor hwrite hread (.inl s.namedTalker_idleWord)
  obtain rfl : t = t' := Host.Outcome.next.inj (hexec.symm.trans hexec')
  refine ⟨t, hexec, fun y => ?_, hlinks.trans (State.linksReported_of_unnamed s.namedTalker_idleWord x), hended⟩
  rw [State.readWord_of_unit hs hfalls y, hwrite]

/-- Settles O36. -/
theorem idlingUnitsWriteTheIdleWord : Obligations.IdlingUnitsWriteTheIdleWord := by
  intro s p sw b k hs h hcursor ends
  obtain ⟨-, hsweep, hbinding, -⟩ := id h
  have htrunk := State.trunk_of_sweepOf hsweep
  have hb : (s.trunk sw.trunk).binding = some b := by rw [htrunk, hbinding]
  refine ⟨fun hkind => ?_, fun hkind => ?_, fun hkind => ?_⟩
  · have hwrite : s.sweepWrite sw = some (fibreChannel b.fibre k, idleWord) := by
      simp only [State.sweepWrite, hb, Option.bind_some, Sweep.unitWrite, hkind, hcursor, Fin.ofNat_val_slot]
    obtain ⟨t, hexec, hends⟩ := State.idlingUnit hs h (by simp [hkind]) hcursor hwrite
      (by simp [State.sweepReadFailed, Sweep.readsAt, hkind])
    rw [hkind] at hexec
    exact ⟨t, hexec, hends⟩
  · have hwrite : s.sweepWrite sw = some (copperChannel p k, idleWord) := by
      simp only [State.sweepWrite, hb, Option.bind_some, Sweep.unitWrite, hkind, hcursor, Fin.ofNat_val_slot]
      simp only [htrunk]
      rfl
    obtain ⟨t, hexec, hends⟩ := State.idlingUnit hs h (by simp [hkind]) hcursor hwrite
      (by simp [State.sweepReadFailed, Sweep.readsAt, hkind])
    rw [hkind] at hexec
    exact ⟨t, hexec, hends⟩
  · have hwrite : s.sweepWrite sw = some (fibreChannel b.fibre k, idleWord) := by
      simp only [State.sweepWrite, hb, Option.bind_some, Sweep.unitWrite, hkind, hcursor, Fin.ofNat_val_slot]
    obtain ⟨t, hexec, hends⟩ := State.idlingUnit hs h (by simp [hkind]) hcursor hwrite
      (by simp [State.sweepReadFailed, Sweep.readsAt, hkind])
    rw [hkind] at hexec
    exact ⟨t, hexec, hends⟩

/-! ## BRIDGE_UNIT (O37) -/

/-- The low eleven bits of a source. -/
theorem setWidth_setWidth_eq_and (y : Physical) : (y.setWidth 11).setWidth 12 = y &&& 0x7FF := by
  apply BitVec.eq_of_getLsbD_eq
  intro i hi
  have hmask : (0x7FF : Physical).getLsbD i = decide (i < 11) := by
    have hall : ∀ i : Fin 12, (0x7FF : Physical).getLsbD i.val = decide (i.val < 11) := by decide
    exact hall ⟨i, hi⟩
  simp only [BitVec.getLsbD_setWidth, BitVec.getLsbD_and, hi, hmask, decide_true, Bool.true_and]
  exact Bool.and_comm _ _

theorem bridgeCopy_eq (w : Word) :
    bridgeCopy w = if parityFailed w then idleWord
      else if (physicalMode w).listens then physicalWord (physicalMode w) (physicalSource w)
      else physicalWord (physicalMode w) (physicalSource w &&& 0x7FF) := by
  rw [bridgeCopy, setWidth_setWidth_eq_and]

/-- Settles O37. -/
theorem bridgeUnitCopiesTheCopperWord : Obligations.BridgeUnitCopiesTheCopperWord := by
  intro s p sw b k hs h hkind hcursor w copy
  obtain ⟨-, hsweep, hbinding, -⟩ := id h
  have htrunk := State.trunk_of_sweepOf hsweep
  have hb : (s.trunk sw.trunk).binding = some b := by rw [htrunk, hbinding]
  have hreads : sw.readsAt = some (copperChannel p k) := by
    simp only [Sweep.readsAt, hkind, hcursor, Fin.ofNat_val_slot, htrunk]
    rfl
  have hw : s.unitRead sw = w := by simp only [State.unitRead, hreads, w]
  have hfailed : s.sweepReadFailed sw = parityFailed w := by simp [State.sweepReadFailed, hreads, hw]
  have hwrite : s.sweepWrite sw = some (fibreForm b.fibre b.map k, copy) := by
    simp only [State.sweepWrite, hb, Option.bind_some, Sweep.unitWrite, hkind, hcursor, Fin.ofNat_val_slot, hw,
      bridgeCopy_eq, copy]
  obtain ⟨t, ps, hexec, hfalls, -⟩ := exec_sweepRow h
  have hrow : exec .bridgeUnit s = .next t := by rwa [hkind] at hexec
  refine ⟨t, hrow, fun y => ?_, ?_, fun hgood hroom => ?_⟩
  · rw [State.readWord_of_unit hs hfalls y, hwrite]
  · rw [State.source_storeParity_of_unit hfalls, hfailed]
  · obtain ⟨t', hexec', hended, hlinks⟩ := State.unitEnded_of_slot h (by simp [hkind]) hcursor hwrite
      (hfailed.trans hgood) (.inr hroom)
    obtain rfl : t = t' := Host.Outcome.next.inj (hexec.symm.trans hexec')
    exact ⟨hended, hlinks⟩

/-! ## CENSUS_UNIT (O38) -/

/-- The positions of a census set or scan set (R90, R94). -/
theorem scanAddress_listed (ports : List FibrePort) {n : Nat} (hn : n < 2048) : (scanAddress ports n).toNat = n := by
  rw [scanAddress, if_pos hn, BitVec.toNat_ofNat, Nat.mod_eq_of_lt (by omega)]

theorem scanAddress_fibre {ports : List FibrePort} {i n k : Nat} {F : FibrePort} (hn : n = 2048 + 32 * i + k)
    (hk : k < 32) (hF : ports[i]? = some F) : (scanAddress ports n).toNat = (64 + F.val) * 32 + k := by
  have hge : ¬ n < 2048 := by omega
  have hi : (n - 2048) / 32 = i := by omega
  have hmod : n % 32 = k := by omega
  have hnumber : FibrePort.number F = 64 + F.val := rfl
  simp only [scanAddress, hge, if_false, hi, hF, BitVec.toNat_ofNat, hmod, hnumber]
  omega

/-- The word that a census gathers into the index (R66). -/
def State.gathers (s : State) (p : Port) (x : Physical) (k : Slot) : Prop :=
  parityFailed (s.readWord x) = false ∧ s.namedTalker (s.readWord x) = some { port := p, slot := k } ∧
    s.linkAt x = none

theorem State.censusRead_of_gathers {k : Slot} (h : s.gathers p x k) :
    s.censusRead p x (s.readWord x) = s.addLink { port := p, slot := k } x := by
  obtain ⟨hparity, hnamed, hlink⟩ := h
  simp only [State.censusRead, hparity, Bool.false_eq_true, if_false, hnamed, hlink, if_true]

theorem State.censusRead_of_not_gathers (h : ∀ k, ¬ s.gathers p x k) : s.censusRead p x (s.readWord x) = (s, []) := by
  unfold State.censusRead
  split
  · rfl
  · next hparity =>
    split
    · next t ht hlink =>
      split
      · next hport =>
        obtain ⟨q, k⟩ := t
        obtain rfl : q = p := hport
        exact absurd ⟨by simpa using hparity, ht, hlink⟩ (h k)
      · rfl
    · rfl

/-- A census unit that raises nothing, with no more than a link added. -/
theorem State.unitEnded_of_census {n : Nat} {links : List Link} (h : s.sweepUnit p sw b) (hkind : sw.kind = .census)
    (hcursor : sw.cursor = .census n) (hset : sw.scanSet ≠ none)
    (haccess : s.sweepAccesses sw = ({ s with links := links }, [])) (hread : s.sweepReadFailed sw = false) :
    ∃ t, exec (StoreUnit.row (.sweep sw.kind p)) s = .next t ∧ t.links = links ∧
      s.unitEnded t p sw (.census (n + 1)) := by
  obtain ⟨-, hhere, -⟩ := id h
  have hnone : s.sweepFaults p sw = [] := by simp [State.sweepFaults, haccess, hread]
  obtain ⟨t, ps, hexec, hfalls, hend⟩ := exec_sweepRow h
  obtain ⟨-, -, -, -, -, -, hkept, -⟩ := hfalls.kept
  refine ⟨t, hexec, ?_, ?_⟩
  · rw [hkept, State.unitTaken, haccess]
  · refine State.unitEnded_of_quiet (hend hnone) hnone (by rw [haccess]) (by rw [haccess]; exact hhere)
      (fun v _ => ?_) fun v _ => ?_
    · have hc : sw.counted.cursor = .census n := hcursor
      simp only [State.advanced, hc]
    · obtain ⟨F, hF⟩ := Option.ne_none_iff_exists'.mp hset
      simp only [State.begun, Sweep.counted, hkind, hF]

/-- Settles O38. -/
theorem censusUnitGathersTheListener : Obligations.CensusUnitGathersTheListener := by
  intro s p sw b n x h hkind hcursor hset hx w gathers
  obtain ⟨-, hsweep, -⟩ := id h
  have htrunk := State.trunk_of_sweepOf hsweep
  have hreads : sw.readsAt = some x := by simp only [Sweep.readsAt, hkind, hcursor, hx]
  have hfailed : s.sweepReadFailed sw = parityFailed w := by simp [State.sweepReadFailed, State.unitRead, hreads, w]
  have haccess : s.sweepAccesses sw = s.censusRead p x w := by
    rw [State.sweepAccesses_of_census hkind hreads, htrunk]
  obtain ⟨t, ps, hexec, hfalls, -⟩ := exec_sweepRow h
  obtain ⟨-, -, hstore, -, -, -, hkept, -⟩ := hfalls.kept
  have hrow : exec .censusUnit s = .next t := by rwa [hkind] at hexec
  refine ⟨fun hn => by rw [hx, scanAddress_listed _ hn], fun i F k hn hk hF => by rw [hx, scanAddress_fibre hn hk hF],
    t, hrow, ?_, ?_, fun k hk hroom => ?_, fun k hk hfull => ?_, fun hgood hno => ?_⟩
  · rw [hstore]
    change (s.sweepAccesses sw).1.store = s.store
    rw [haccess, State.censusRead_store]
  · rw [State.source_storeParity_of_unit hfalls, hfailed]
  · have hadd := State.addLink_of_free { port := p, slot := k } x hroom
    obtain ⟨t', hexec', hlinks, hended⟩ := State.unitEnded_of_census h hkind hcursor hset
      (haccess.trans ((State.censusRead_of_gathers hk).trans hadd)) (hfailed.trans hk.1)
    obtain rfl : t = t' := Host.Outcome.next.inj (hexec.symm.trans hexec')
    exact ⟨hlinks, hended⟩
  · have hoverflow : s.sweepAccesses sw = s.overflow p := by
      rw [haccess, State.censusRead_of_gathers hk, State.addLink, if_neg (Nat.not_lt.mpr hfull)]
    refine ⟨?_, ?_, ?_⟩
    · rw [hkept]
      change (s.sweepAccesses sw).1.links = _
      rw [hoverflow, State.overflow, State.recordOccurrence_links]
      rfl
    · rw [hfalls.indexLost p]
      change ((s.sweepAccesses sw).1.trunk p).indexLost = true
      rw [hoverflow, State.overflow, State.trunk, State.recordOccurrence_trunks]
      change ((s.setIndexLost p true).trunk p).indexLost = true
      rw [State.setIndexLost, State.trunk_setTrunk, if_pos rfl]
    · have hfaults : s.sweepFaults p sw = [(.indexOverflow, some p)] := by
        have hgood : s.sweepReadFailed sw = false := hfailed.trans hk.1
        simp [State.sweepFaults, hoverflow, State.overflow, hgood]
      have hsource : (s.unitTaken p sw).source .indexOverflow =
          ({ s with faults := s.collected (s.sweepFaults p sw) } : State).source .indexOverflow := rfl
      rw [hfalls.source (by simp), hsource, State.source_collected, hfaults]
      simp
  · obtain ⟨t', hexec', hlinks, hended⟩ := State.unitEnded_of_census (links := s.links) h hkind hcursor hset
      (haccess.trans (State.censusRead_of_not_gathers hno)) (hfailed.trans hgood)
    obtain rfl : t = t' := Host.Outcome.next.inj (hexec.symm.trans hexec')
    exact ⟨hlinks, hended⟩

end Sys2Proof.Machine
end

section
/-! SUPPORT. ROLL_UNIT and UNROLL_UNIT (O39). -/

namespace Sys2Proof.Machine

variable {s t : State} {p : Port} {sw : Sweep} {b : Binding} {x : Physical} {w : Word}

/-! ## The word that a unit rewrites (R91) -/

/-- A parity-good listener of this source, at a slot that the unit covers. -/
def turnsAt (covers : Slot → Prop) (w : Word) (k : Slot) (form : Physical) : Prop :=
  covers k ∧ parityFailed w = false ∧ (physicalMode w).listens = true ∧ physicalSource w = form

theorem rollRewrite_of_turns {covers : Slot → Bool} {k : Slot}
    (h : turnsAt (fun k => covers k = true) w k (copperChannel p k)) :
    rollRewrite b p covers w = some (physicalWord (physicalMode w) (fibreForm b.fibre b.map k)) := by
  obtain ⟨hcovers, hparity, hlistens, hsource⟩ := h
  simp [rollRewrite, hparity, hlistens, hsource, copperPortOf_copperChannel, physicalSlot_copperChannel, hcovers]

theorem rollRewrite_of_not_turns {covers : Slot → Bool}
    (h : ∀ k, ¬ turnsAt (fun k => covers k = true) w k (copperChannel p k)) : rollRewrite b p covers w = none := by
  unfold rollRewrite
  split
  · rfl
  · next hgood =>
    split
    · next hform =>
      simp only [Bool.or_eq_true, Bool.not_eq_true', not_or, Bool.not_eq_true, Bool.not_eq_false] at hgood
      simp only [Bool.and_eq_true, decide_eq_true_eq] at hform
      exact absurd ⟨hform.2, hgood.1, hgood.2, copperPortOf_eq_some_iff.mp hform.1⟩ (h _)
    · rfl

theorem unrollRewrite_of_turns {covers : Slot → Bool} {k : Slot} (hvalid : validMap b.map = true)
    (h : turnsAt (fun k => covers k = true) w k (fibreForm b.fibre b.map k)) :
    unrollRewrite b p covers w = some (physicalWord (physicalMode w) (copperChannel p k)) := by
  obtain ⟨hcovers, hparity, hlistens, hsource⟩ := h
  have hk : inverseSlot b.map b.map[k] = some k := (inverseSlot_eq_some_iff hvalid).mpr rfl
  simp only [unrollRewrite, hparity, hlistens, hsource, fibreForm, physicalFibrePort_fibreChannel,
    physicalSlot_fibreChannel, hk, hcovers, if_true]
  rfl

theorem unrollRewrite_of_not_turns {covers : Slot → Bool} (hvalid : validMap b.map = true)
    (h : ∀ k, ¬ turnsAt (fun k => covers k = true) w k (fibreForm b.fibre b.map k)) :
    unrollRewrite b p covers w = none := by
  unfold unrollRewrite
  split
  · rfl
  · next hgood =>
    simp only [Bool.or_eq_true, Bool.not_eq_true', not_or, Bool.not_eq_true, Bool.not_eq_false] at hgood
    split
    · next hport =>
      split
      · next k hk =>
        split
        · next hcovers =>
          refine absurd ⟨hcovers, hgood.1, hgood.2, ?_⟩ (h k)
          rw [fibreForm, (inverseSlot_eq_some_iff hvalid).mp hk]
          exact physicalFibrePort_eq_some_iff.mp hport
        · rfl
      · rfl
    · rfl

/-! ## The end of a rewriting unit -/

/-- What a ROLL or UNROLL unit leaves, which turns the listeners of `old` into those of `new`. -/
def State.rewritten (s t : State) (p : Port) (sw : Sweep) (x : Physical) (covers : Slot → Prop)
    (old new : Slot → Physical) : Prop :=
  (∀ y, y ≠ x → t.readWord y = s.readWord y) ∧
  (∀ k, turnsAt covers (s.readWord x) k (old k) →
    t.readWord x = physicalWord (physicalMode (s.readWord x)) (new k)) ∧
  ((∀ k, ¬ turnsAt covers (s.readWord x) k (old k)) → t.readWord x = s.readWord x ∧ t.links = s.links) ∧
  t.source .storeParity =
    (if parityFailed (s.readWord x) then (s.source .storeParity).occurred (some p) else s.source .storeParity) ∧
  (parityFailed (s.readWord x) = false → s.links.length < linkPoolSize →
    t = { s with store := t.store, links := t.links, sweeps := t.sweeps, arbiter := t.arbiter } ∧
    t.sweepQueue = s.queueCounted p ∧
    (∀ k, turnsAt covers (s.readWord x) k (old k) →
      t.links = s.linksReported s.links x (physicalWord (physicalMode (s.readWord x)) (new k))) ∧
    (∀ second n, sw.cursor = .scan second n → t.sweepOf p = some { sw.counted with
      cursor := if second = false ∧ 2048 + 32 * sw.ports.length ≤ n + 1 then .scan true 0
                else .scan second (n + 1) }) ∧
    (∀ j, sw.cursor = .index (some (j, x)) → s.bindingSound → s.followed p = true →
      s.linkAt x = some { talker := { port := p, slot := j }, listener := x } →
      t.links = s.links ∧
        t.sweepOf p = some { sw.counted with cursor := .index (nextOfLists s.links p j x) }))

/-- The cursor of SCAN mode goes on (R94). -/
theorem State.advanced_scan {second : Bool} {n : Nat} (h : sw.cursor = .scan second n) (v : State) :
    v.advanced sw.counted = { sw.counted with
      cursor := if second = false ∧ 2048 + 32 * sw.ports.length ≤ n + 1 then .scan true 0
                else .scan second (n + 1) } := by
  have hc : sw.counted.cursor = .scan second n := h
  have hports : sw.counted.ports = sw.ports := rfl
  cases second with
  | true => simp only [State.advanced, hc, reduceCtorEq, false_and, if_false]
  | false =>
    simp only [State.advanced, hc, true_and, scanSize, hports]
    by_cases hn : n + 1 < 2048 + 32 * sw.ports.length
    · rw [if_pos hn, if_neg (by omega)]
    · rw [if_neg hn, if_pos (by omega)]

theorem State.begun_scan {second : Bool} {n : Nat} (h : sw.cursor = .scan second n) (v : State) : v.begun sw = sw := by
  unfold State.begun
  rw [h]
  cases sw.kind <;> rfl

/-- A rewritten word names the talker of its link, which is kept (R63). -/
theorem State.namedTalker_of_form (hs : s.bindingSound) (hfollowed : s.followed p = true)
    (hb : (s.trunk p).binding = some b) {m : Mode} (hm : m.listens = true) {k : Slot} {form : Physical}
    (hform : form = copperChannel p k ∨ form = fibreForm b.fibre b.map k) :
    s.namedTalker (physicalWord m form) = some { port := p, slot := k } := by
  rw [State.namedTalker_eq_some_iff hs, physicalMode_physicalWord, physicalSource_physicalWord]
  exact ⟨hm, hfollowed, hform.imp id fun h => ⟨b, hb, h⟩⟩

/-- A report of a word that still names the talker of its link changes nothing (R63). -/
theorem State.observe_kept {k : Talker} (hx : s.linkAt x = some { talker := k, listener := x })
    (hw : s.namedTalker w = some k) : s.observe x w = (s, []) := by
  simp only [State.observe, hx, hw, if_true]

/-- A ROLL or UNROLL unit at the word `x`. -/
theorem State.rewriteUnit {covers : Slot → Prop} {old new : Slot → Physical} {rewrite : Option Word}
    (hs : s.storeSound) (h : s.sweepUnit p sw b) (hkind : sw.kind ≠ .census) (hreads : sw.readsAt = some x)
    (hwrite : s.sweepWrite sw = rewrite.map fun w => (x, w))
    (hturns : ∀ k, turnsAt covers (s.readWord x) k (old k) →
      rewrite = some (physicalWord (physicalMode (s.readWord x)) (new k)))
    (hstays : (∀ k, ¬ turnsAt covers (s.readWord x) k (old k)) → rewrite = none)
    (hcovers : ∀ j, sw.cursor = .index (some (j, x)) → ∀ k, covers k → k = j)
    (hnew : ∀ k, new k = copperChannel p k ∨ new k = fibreForm b.fibre b.map k) :
    ∃ t, exec (StoreUnit.row (.sweep sw.kind p)) s = .next t ∧ s.rewritten t p sw x covers old new := by
  obtain ⟨-, hsweep, hbinding, -⟩ := id h
  have htrunk := State.trunk_of_sweepOf hsweep
  have hfailed : s.sweepReadFailed sw = parityFailed (s.readWord x) := by
    simp [State.sweepReadFailed, State.unitRead, hreads]
  have haccess : s.sweepAccesses sw = s.writesReported (rewrite.map fun w => (x, w)).toList := by
    rw [State.sweepAccesses_of_write hkind, hwrite]
  obtain ⟨t, ps, hexec, hfalls, hend⟩ := exec_sweepRow h
  obtain ⟨-, -, -, -, -, -, hkept, -⟩ := hfalls.kept
  have hread (y : Physical) := State.readWord_of_unit hs hfalls y
  have hlinks : t.links = (s.sweepAccesses sw).1.links := hkept
  refine ⟨t, hexec, fun y hy => ?_, fun k hk => ?_, fun hno => ?_, ?_, fun hgood hroom => ?_⟩
  · rw [hread, hwrite]
    cases rewrite with
    | none => rfl
    | some w' => exact if_neg hy
  · rw [hread, hwrite, hturns k hk]
    exact if_pos rfl
  · rw [hread, hwrite, hlinks, haccess, hstays hno]
    exact ⟨rfl, rfl⟩
  · rw [State.source_storeParity_of_unit hfalls, hfailed]
  · have hquiet : (s.sweepAccesses sw).2 = [] ∧ (s.sweepAccesses sw).1 = { s with
        store := (s.sweepAccesses sw).1.store
        links := (s.sweepAccesses sw).1.links
        sweeps := (s.sweepAccesses sw).1.sweeps } := by
      obtain ⟨hnone, hframe, -⟩ := State.writesReported_of_free (s := s) (rewrite.map fun w => (x, w)).toList (by
        cases rewrite <;> simp <;> omega)
      rw [haccess]
      exact ⟨hnone, hframe⟩
    obtain ⟨hempty, hframe⟩ := hquiet
    have hnone : s.sweepFaults p sw = [] := by simp [State.sweepFaults, hempty, hfailed, hgood]
    have hover := hend hnone
    obtain ⟨hrest, hqueue⟩ := State.unitOver_frame hnone hframe
    rw [← hover] at hrest hqueue
    refine ⟨hrest, hqueue, fun k hk => ?_, fun second n hcursor => ?_, fun j hcursor hbs hfollowed hx => ?_⟩
    · rw [hlinks, haccess, hturns k hk, Option.map_some, Option.toList_some, State.writesReported_links]
      · rfl
      · simp only [List.length_singleton]
        omega
    · rw [hover]
      refine State.unitOver_cursor hnone hframe ?_ (fun v _ => State.advanced_scan hcursor v) fun v _ => ?_
      · rw [haccess]
        cases rewrite with
        | none => exact hsweep
        | some w' =>
          rw [Option.map_some, Option.toList_some, State.writesReported_one]
          exact State.sweepOf_observe (s := s.writeWord x w') hsweep (.inl fun c => by rw [hcursor]; simp)
      · split
        · exact State.begun_scan rfl v
        · exact State.begun_scan rfl v
    · have hsame : (s.sweepAccesses sw).1.links = s.links ∧ (s.sweepAccesses sw).1.sweepOf p = some sw := by
        rw [haccess]
        cases hre : rewrite with
        | none => exact ⟨rfl, hsweep⟩
        | some w' =>
          obtain ⟨k, hk⟩ : ∃ k, turnsAt covers (s.readWord x) k (old k) := by
            refine Classical.byContradiction fun hno => ?_
            rw [hstays fun k hk => hno ⟨k, hk⟩] at hre
            exact absurd hre (by simp)
          obtain ⟨hcover, -, hlistens, -⟩ := id hk
          obtain rfl := hcovers j hcursor k hcover
          obtain rfl := Option.some.inj (hre.symm.trans (hturns k hk))
          have hnamed := State.namedTalker_of_form hbs hfollowed hbinding hlistens (hnew k)
          rw [Option.map_some, Option.toList_some, State.writesReported_one]
          generalize physicalWord (physicalMode (s.readWord x)) (new k) = w' at hnamed ⊢
          have hsame : (s.writeWord x w').namedTalker = s.namedTalker := State.namedTalker_congr rfl rfl
          rw [State.observe_kept (s := s.writeWord x w') (k := { port := p, slot := k }) hx (by rw [hsame, hnamed])]
          exact ⟨rfl, hsweep⟩
      obtain ⟨hsamelinks, hsamesweep⟩ := hsame
      refine ⟨hlinks.trans hsamelinks, ?_⟩
      rw [hover]
      refine State.unitOver_cursor hnone hframe hsamesweep (fun v hv => ?_) fun v hv => ?_
      · have hc : sw.counted.cursor = .index (some (j, x)) := hcursor
        have ht : sw.counted.trunk = p := htrunk
        simp only [State.advanced, hc, State.nextLink_eq, hv, hsamelinks, ht]
      · refine State.begun_of_not_lost rfl ?_
        have hlost : (s.trunk p).indexLost = false := by
          simp only [State.followed, Bool.and_eq_true, Bool.not_eq_true'] at hfollowed
          exact hfollowed.2
        change (v.trunk sw.trunk).indexLost = false
        rw [State.trunk, hv, htrunk]
        exact hlost

/-- Settles O39. -/
theorem rollAndUnrollUnitsRewriteTheListener : Obligations.RollAndUnrollUnitsRewriteTheListener := by
  intro s p sw b x covers hs h hvalid hcursor w turns ends
  obtain ⟨-, hsweep, hbinding, -⟩ := id h
  have htrunk := State.trunk_of_sweepOf hsweep
  have hb : (s.trunk sw.trunk).binding = some b := by rw [htrunk, hbinding]
  have hcovers : covers = fun k => sw.cursor.covers k = true := by
    rcases hcursor with ⟨j, hc, rfl⟩ | ⟨second, n, hc, -, rfl⟩
    · funext k
      simp [hc, Cursor.covers]
    · funext k
      rw [hc]
      cases second
      · exact propext decide_eq_true_iff.symm
      · exact propext bne_iff_ne.symm
  have hindex : ∀ j, sw.cursor = .index (some (j, x)) → ∀ k, covers k → k = j := by
    intro j hc k hk
    rw [hcovers] at hk
    simpa [hc, Cursor.covers] using hk
  have hreads (hkind : sw.kind = .roll ∨ sw.kind = .unroll) : sw.readsAt = some x := by
    rcases hcursor with ⟨j, hc, -⟩ | ⟨second, n, hc, hx, -⟩
    · rcases hkind with hkind | hkind <;> simp only [Sweep.readsAt, hkind, hc]
    · rcases hkind with hkind | hkind <;> simp only [Sweep.readsAt, hkind, hc, hx]
  have hread (hkind : sw.kind = .roll ∨ sw.kind = .unroll) : s.unitRead sw = w := by
    simp only [State.unitRead, hreads hkind, w]
  refine ⟨fun second n hc => ?_, fun hkind => ?_, fun hkind => ?_⟩
  · rcases hcursor with ⟨j, hc', -⟩ | ⟨second', n', hc', hx, -⟩
    · rw [hc] at hc'
      exact absurd hc' (by simp)
    · obtain ⟨rfl, rfl⟩ := Cursor.scan.inj (hc.symm.trans hc')
      exact ⟨fun hn => by rw [hx, scanAddress_listed _ hn], fun i F k hn hk hF => by rw [hx, scanAddress_fibre hn hk hF]⟩
  · have hwrite : s.sweepWrite sw = (rollRewrite b p sw.cursor.covers w).map fun w => (x, w) := by
      simp only [State.sweepWrite, hb, Option.bind_some, Sweep.unitWrite, hkind, hreads (.inl hkind), hread (.inl hkind)]
      rw [htrunk]
    subst hcovers
    have hunit := State.rewriteUnit hs h (by simp [hkind]) (hreads (.inl hkind)) hwrite
      (fun k hk => rollRewrite_of_turns hk) (fun hno => rollRewrite_of_not_turns hno) hindex (fun k => .inr rfl)
    rw [hkind] at hunit
    exact hunit
  · have hwrite : s.sweepWrite sw = (unrollRewrite b p sw.cursor.covers w).map fun w => (x, w) := by
      simp only [State.sweepWrite, hb, Option.bind_some, Sweep.unitWrite, hkind, hreads (.inr hkind), hread (.inr hkind)]
      rw [htrunk]
    subst hcovers
    have hunit := State.rewriteUnit hs h (by simp [hkind]) (hreads (.inr hkind)) hwrite
      (fun k hk => unrollRewrite_of_turns hvalid hk) (fun hno => unrollRewrite_of_not_turns hvalid hno) hindex
      (fun k => .inl rfl)
    rw [hkind] at hunit
    exact hunit

end Sys2Proof.Machine
end

section
/-! SUPPORT. The completions (O40). -/

namespace Sys2Proof.Machine

variable {s t u : State} {p : Port} {sw : Sweep}

/-- A completion is taken from the executing sweep with no unit remaining (R86). -/
theorem State.takeCompletion_of_completed {kind : SweepKind} (hcompleted : s.finishUnit.engine.completed = some sw)
    (hchannel : s.channelAct = none) (hdue : s.due = []) (hkind : sw.kind = kind) :
    s.takeCompletion kind = (s.finishUnit.engine.complete kind sw.trunk).resume := by
  simp only [State.takeCompletion, hcompleted, hkind, State.midEvent_of_nothing_due hdue, hchannel]
  rfl

/-- A record changed and its completed sweep removed. -/
theorem State.movedAlone_completed (u : State) (p : Port) (r : TrunkRecord) :
    u.movedAlone ((u.removeSweep p).changeTrunk p r) p r u.armedList (u.queueWithout p) :=
  ⟨⟨fun q => State.trunk_changeTrunk _ p q r, rfl, u.removeSweep_sweepQueue p, rfl, rfl⟩, rfl, rfl⟩

/-- A completed RELEASE (R136, R71). -/
theorem State.completeRelease_spec (hphase : u.phase p = .releasing) (ht : (u.completeRelease p).resumed t) :
    u.recordChanged t p
        { u.trunk p with phase := .migrated, lingering := true, autoLead := none, indexLost := false } ∧
      t.sweepQueue = u.queueWithout p ∧ t.links = u.linksWithout p ∧
      t.link = { u.link with changePending := true } ∧
      t = { u with trunks := t.trunks, links := t.links, link := t.link, sweeps := t.sweeps, arbiter := t.arbiter } := by
  have hcomplete : u.completeRelease p = (((u.removeSweep p).changeTrunk p
      { u.trunk p with phase := .migrated, lingering := true, autoLead := none }).clearIndex p) := by
    have hphase' : (u.removeSweep p).phase p = .releasing := hphase
    simp only [State.completeRelease, hphase']
    rfl
  obtain ⟨hrest, hqueue⟩ := ht
  rw [hcomplete] at hrest hqueue
  refine ⟨fun q => ?_, hqueue.trans (u.removeSweep_sweepQueue p), ?_, ?_, ?_⟩
  · have htrunk : t.trunk q = (((u.removeSweep p).changeTrunk p
        { u.trunk p with phase := .migrated, lingering := true, autoLead := none }).clearIndex p).trunk q :=
      (congrArg (State.trunk · q) hrest :)
    rw [htrunk, State.trunk_clearIndex, State.trunk_changeTrunk, State.trunk_changeTrunk, if_pos rfl]
    split <;> rfl
  · rw [hrest]; rfl
  · rw [hrest]; rfl
  · rw [hrest]; rfl

/-- A completed UNBRIDGE (R153, R71). -/
theorem State.completeUnbridge_spec (hphase : u.phase p = .unbridging) (ht : (u.completeUnbridge p).resumed t) :
    u.recordChanged t p
        { u.trunk p with phase := .bound, undo := none, rollStart := none, indexLost := false } ∧
      t.sweepQueue = u.queueWithout p ∧ t.links = u.linksWithout p ∧
      (∀ q, t.view q = if q = p then none else u.view q) ∧
      t.link = { u.link with views := t.link.views, changePending := true } ∧
      t = { u with trunks := t.trunks, links := t.links, link := t.link, sweeps := t.sweeps, arbiter := t.arbiter } := by
  have hcomplete : u.completeUnbridge p = (((u.removeSweep p).setTrunk p
      { u.trunk p with phase := .bound, undo := none, rollStart := none }).clearIndex p).leaveAnnounced p := by
    have hphase' : (u.removeSweep p).phase p = .unbridging := hphase
    simp only [State.completeUnbridge, hphase']
    rfl
  obtain ⟨hrest, hqueue⟩ := ht
  rw [hcomplete] at hrest hqueue
  refine ⟨fun q => ?_, hqueue.trans (u.removeSweep_sweepQueue p), ?_, fun q => ?_, ?_, ?_⟩
  · have htrunk : t.trunk q = (((u.removeSweep p).setTrunk p
        { u.trunk p with phase := .bound, undo := none, rollStart := none }).clearIndex p).trunk q :=
      (congrArg (State.trunk · q) hrest :)
    rw [htrunk, State.trunk_clearIndex, State.trunk_setTrunk, State.trunk_setTrunk, if_pos rfl]
    split <;> rfl
  · rw [hrest]; rfl
  · have hview : t.view q = ((((u.removeSweep p).setTrunk p
        { u.trunk p with phase := .bound, undo := none, rollStart := none }).clearIndex p).setView p none).view q :=
      (congrArg (State.view · q) hrest :)
    rw [hview, State.view_setView]
    rfl
  · rw [hrest]; rfl
  · rw [hrest]; rfl

/-- Settles O40. -/
theorem completionsMoveTheRecord : Obligations.CompletionsMoveTheRecord := by
  refine ⟨fun s sw => ?_, fun s sw => ?_⟩
  · intro u p r hcompleted hchannel hdue
    have htake {kind : SweepKind} (hkind : sw.kind = kind) : (u.complete kind p).resumed (s.takeCompletion kind) := by
      rw [State.takeCompletion_of_completed hcompleted hchannel hdue hkind]
      exact State.resumed_resume _
    clear_value u
    refine ⟨fun hkind => ⟨_, rfl, ?_⟩, fun hkind => ⟨_, rfl, ?_, ?_⟩, fun hkind hphase => ⟨_, rfl, ?_⟩,
      fun hkind hphase => ⟨_, rfl, ?_⟩, fun hkind hphase => ⟨_, rfl, State.completeRelease_spec hphase (htake hkind)⟩⟩
    · obtain ⟨hrest, hqueue⟩ := htake hkind
      refine ⟨fun q => ?_, hqueue.trans (u.removeSweep_sweepQueue p), ?_⟩
      · exact (congrArg (State.trunk · q) hrest).trans (State.trunk_setTrunk _ p q _)
      · rw [hrest]; rfl
    · intro hphase
      have hstep : u.complete .census p = (u.removeSweep p).changeTrunk p { r with phase := .tracked } := by
        have hphase' : (u.removeSweep p).phase p = .census := hphase
        simp only [State.complete, State.completeCensus, hphase']
        rfl
      have ht := htake hkind
      rw [hstep] at ht
      exact (u.movedAlone_completed p _).of_resumed ht
    · intro hphase
      have hstep : u.complete .census p = u.removeSweep p := by
        have hphase' : (u.removeSweep p).phase p = r.phase := rfl
        simp only [State.complete, State.completeCensus, hphase']
      obtain ⟨hrest, hqueue⟩ := htake hkind
      rw [hstep] at hrest hqueue
      refine ⟨hqueue.trans (u.removeSweep_sweepQueue p), ?_⟩
      rw [hrest]
      rfl
    · have hstep : u.complete .bridge p = (u.removeSweep p).changeTrunk p { r with phase := .bridged } := by
        have hphase' : (u.removeSweep p).phase p = .bridging := hphase
        simp only [State.complete, State.completeBridge, hphase']
        rfl
      have ht := htake hkind
      rw [hstep] at ht
      exact (u.movedAlone_completed p _).of_resumed ht
    · have hstep : u.complete .roll p = (u.removeSweep p).changeTrunk p { r with
          phase := .rolled, commit := false,
          soak := some (u.timing.soakMantissa * 2 ^ u.timing.soakExponent) } := by
        have hphase' : (u.removeSweep p).phase p = .rolling := hphase
        simp only [State.complete, State.completeRoll, hphase']
        rfl
      have ht := htake hkind
      rw [hstep] at ht
      exact (u.movedAlone_completed p _).of_resumed ht
  · intro u p r hcompleted hchannel hdue
    have htake {kind : SweepKind} (hkind : sw.kind = kind) : (u.complete kind p).resumed (s.takeCompletion kind) := by
      rw [State.takeCompletion_of_completed hcompleted hchannel hdue hkind]
      exact State.resumed_resume _
    clear_value u
    refine ⟨fun hkind hphase => ⟨_, rfl, fun hundo => ?_, fun hundo => ?_⟩,
      fun hkind hphase => ⟨_, rfl, State.completeUnbridge_spec hphase (htake hkind)⟩⟩
    · have hstep : u.complete .unroll p =
          (u.removeSweep p).changeTrunk p { r with phase := .bridged, undo := none, rollStart := none } := by
        have hphase' : (u.removeSweep p).phase p = .unrolling := hphase
        have hundo' : ((u.removeSweep p).trunk p).undo = some .bridged := hundo
        simp only [State.complete, State.completeUnroll, hphase', hundo']
        rfl
      have ht := htake hkind
      rw [hstep] at ht
      exact (u.movedAlone_completed p _).of_resumed ht
    · have hstep : u.complete .unroll p =
          ((u.removeSweep p).changeTrunk p { r with phase := .unbridging, rollStart := none }).queueSweep .unbridge
            p := by
        have hphase' : (u.removeSweep p).phase p = .unrolling := hphase
        have hundo' : ((u.removeSweep p).trunk p).undo = some .bound := hundo
        simp only [State.complete, State.completeUnroll, hphase', hundo']
        rw [← hundo]
        rfl
      have ht := htake hkind
      rw [hstep] at ht
      exact ((u.movedAlone_completed p _).queueSweep .unbridge p).of_resumed ht

end Sys2Proof.Machine
end

section
/-! SUPPORT. FS_PULSE (O41), MFS_MISS, ADRIFT_ENTRY and FS_ABSENCE (O42). -/

namespace Sys2Proof.Machine

variable {s t : State}

/-- What the collector makes of an occurrence depends on the collector and M alone (R180). -/
theorem State.faults_recordOccurrence_of_multiframe {s t : State} (hf : s.faults = t.faults)
    (hm : s.timing.multiframe = t.timing.multiframe) (src : FaultSource) (o : Option Port) :
    (s.recordOccurrence src o).faults = (t.recordOccurrence src o).faults := by
  have hsource : s.source src = t.source src := by rw [State.source, State.source, hf]
  unfold State.recordOccurrence State.captureFirst State.setSource State.setHold
  rw [hsource]
  dsimp only
  rw [hf, hm]
  split
  · rfl
  · cases t.faults.first <;> dsimp only <;> split <;> rfl

/-- With nothing due no event waits. -/
theorem State.quiet.due (h : s.quiet) : s.due = [] := by
  simp only [State.quiet, State.somethingDue, State.eventWaits, Bool.or_eq_false_iff] at h
  simpa using h.2.1

theorem State.resumed.trans {u v : State} (h : u.resumed v) (k : v.resumed t) : u.resumed t := by
  obtain ⟨hv, hqueue⟩ := h
  obtain ⟨ht, hqueue'⟩ := k
  refine ⟨?_, hqueue'.trans hqueue⟩
  conv => lhs; rw [ht, hv]

/-! ## FS_PULSE (O41) -/

theorem Timing.awake_advance (t : Timing) :
    t.awake.advance = { t with
      sync := if t.sync = .stopped then SyncState.search else t.sync
      frame := t.frame + 1
      interval := min 64 ((if t.sync = .stopped then 0 else t.interval) + 1) } := by
  cases h : t.sync <;> simp [Timing.awake, Timing.advance, Timing.reaches, h]

theorem Timing.awake_accept (t : Timing) :
    t.awake.accept = { t with sync := .locked, frame := BitVec.ofInt 4 (16 - t.trim), interval := 0 } := by
  cases h : t.sync <;> simp [Timing.awake, Timing.accept, Timing.aligned, h]

theorem Timing.awake_sync (t : Timing) : t.awake.sync = if t.sync = .stopped then SyncState.search else t.sync := by
  cases h : t.sync <;> simp [Timing.awake, h]

theorem Timing.awake_reaches (t : Timing) :
    t.awake.reaches = min 64 ((if t.sync = .stopped then 0 else t.interval) + 1) := by
  cases h : t.sync <;> simp [Timing.awake, Timing.reaches, h]

theorem Timing.awake_frame (t : Timing) : t.awake.frame = t.frame ∧ t.awake.trim = t.trim := by
  cases h : t.sync <;> simp [Timing.awake, h]

/-- The sync event of a pulse without MFS (R101 to R103). -/
theorem Timing.missed_eq (t : Timing) :
    t.missed = if (t.sync = .search ∨ t.sync = .flywheel) ∧ t.reaches = 64 then [.adriftEntry]
      else if (t.sync = .locked ∧ t.reaches = 16) ∨ (t.sync = .flywheel ∧ (t.reaches = 32 ∨ t.reaches = 48))
        then [.mfsMiss]
      else [] := by
  unfold Timing.missed
  cases t.sync
  case search => by_cases h : t.reaches = 64 <;> simp [h]
  case locked => by_cases h : t.reaches = 16 <;> simp [h]
  case flywheel =>
    by_cases h64 : t.reaches = 64
    · simp [h64]
    · by_cases h32 : t.reaches = 32
      · simp [h32]
      · by_cases h48 : t.reaches = 48
        · simp [h48]
        · simp [h64, h32, h48]
  case adrift => simp
  case stopped => simp

/-- When an accepted MFS raises SYNC_REALIGN (R101 to R104). -/
theorem Timing.realigns_iff (t : Timing) :
    t.realigns = true ↔ (t.sync = .locked ∧ t.reaches ≠ 16) ∨ (t.sync = .flywheel ∧ t.reaches % 16 ≠ 0) ∨
      (t.sync = .adrift ∧ t.aligned ≠ t.frame + 1) := by
  unfold Timing.realigns
  cases t.sync <;> simp

/-- Settles O41. -/
theorem framePulseStepsTheCounters : Obligations.FramePulseStepsTheCounters := by
  intro s hquiet sync n a f realigns
  have hsettle : s.settle = s.resume := State.settle_of_nothing_due hquiet
  have hdue := hquiet.due
  refine ⟨⟨_, rfl, ?_, ?_, ?_, ?_⟩, ⟨_, rfl, ?_⟩⟩
  · rw [hsettle, State.resume_timing]
    change s.resume.timing.awake.advance = _
    rw [State.resume_timing, Timing.awake_advance]
  · rw [hsettle, State.resume_due]
    change s.resume.due ++ s.resume.timing.awake.missed ++ s.resume.timing.awake.advance.boundaryDue = _
    rw [State.resume_due, State.resume_timing, hdue, List.nil_append, Timing.missed_eq, Timing.awake_sync,
      Timing.awake_reaches, Timing.awake_advance]
    rfl
  · rw [hsettle, State.resume_eq]
    change ({ s.resume with timing := _, due := _, sweeps := _, arbiter := _ } : State) = _
    rw [State.resume_eq]
  · rw [hsettle, State.resume_sweepQueue]
    change s.resume.sweepQueue = _
    exact s.resume_sweepQueue
  · intro u
    have hu : ({ s.resume with
        timing := s.resume.timing.awake.accept
        due := s.resume.due ++ s.resume.timing.awake.accept.boundaryDue } : State) = u := by
      rw [State.resume_timing, State.resume_due, hdue, Timing.awake_accept]
      rfl
    have hrealigns : s.resume.timing.awake.realigns = true ↔ realigns := by
      rw [State.resume_timing, Timing.realigns_iff, Timing.awake_sync, Timing.awake_reaches, Timing.aligned,
        s.timing.awake_frame.1, s.timing.awake_frame.2]
    refine ⟨fun hr => State.raisesAt_raise u .syncRealign none ?_, fun hr => ?_⟩
    · have hpulse : s.settle.pulse true = u.raise .syncRealign none := by
        rw [hsettle, ← hu]
        simp only [State.pulse, hrealigns.mpr hr, if_true]
      rw [hpulse]
      exact State.resumed_resume _
    · have hno : s.resume.timing.awake.realigns = false := Bool.eq_false_iff.mpr fun h => hr (hrealigns.mp h)
      have hpulse : s.settle.pulse true = u := by
        rw [hsettle, ← hu]
        simp only [State.pulse, hno, if_true, Bool.false_eq_true, if_false]
      rw [hpulse]
      exact State.resumed_resume _

/-! ## MFS_MISS, ADRIFT_ENTRY and FS_ABSENCE (O42) -/

/-- A fault that dispatches no fallback, raised as the sync state changes. -/
theorem State.raise_setSync {y : SyncState} (h : s.dispatches .syncLoss = false) :
    (s.setSync y).raise .syncLoss none = { s with
      timing := { s.timing with sync := y }
      faults := (s.recordOccurrence .syncLoss none).faults } := by
  have hdispatch : ((s.setSync y).recordOccurrence .syncLoss none).dispatches .syncLoss = false := by
    rw [State.dispatches_recordOccurrence]
    exact h
  have hfaults : ((s.setSync y).recordOccurrence .syncLoss none).faults = (s.recordOccurrence .syncLoss none).faults := by
    apply State.faults_recordOccurrence_of_multiframe <;> rfl
  rw [State.raise_of_not_dispatches hdispatch, State.recordOccurrence_eq, hfaults]
  rfl

/-- Settles O42. -/
theorem syncStatesFollowMissesAndAbsence : Obligations.SyncStatesFollowMissesAndAbsence := by
  refine fun s => ⟨fun hdue => ⟨_, rfl, ?_⟩, fun hdue hclass => ⟨_, rfl, ?_⟩, fun hquiet hclass => ⟨_, rfl, ?_⟩⟩
  · rw [State.takeMfsMiss, State.onDue_of_mem _ hdue]
    exact State.resumed_resume _
  · have hfaults : ((s.takeDue .adriftEntry).recordOccurrence .syncLoss none).faults =
        (s.recordOccurrence .syncLoss none).faults := by
      apply State.faults_recordOccurrence_congr <;> rfl
    have hraise := State.raise_setSync (s := s.takeDue .adriftEntry) (y := .adrift) hclass
    rw [hfaults] at hraise
    rw [State.takeAdriftEntry, State.onDue_of_mem _ hdue, hraise]
    exact State.resumed_resume _
  · rw [State.settle_of_nothing_due hquiet]
    have hsync : s.resume.timing.sync = s.timing.sync := by rw [State.resume_timing]
    unfold State.fsAbsent
    rw [hsync]
    split
    · exact s.resumed_resume.trans (State.resumed_resume _)
    · have hclass' : s.resume.dispatches .syncLoss = false := by
        rw [← hclass, State.dispatches, State.source, State.resume_faults]
        rfl
      have hfaults : (s.resume.recordOccurrence .syncLoss none).faults = (s.recordOccurrence .syncLoss none).faults := by
        apply State.faults_recordOccurrence_congr
        · exact s.resume_faults
        · exact s.resume_timing
      rw [State.raise_setSync hclass', hfaults]
      refine State.resumed.trans ?_ (State.resumed_resume _)
      refine ⟨?_, s.resume_sweepQueue⟩
      conv => lhs; rw [State.resume_eq]

end Sys2Proof.Machine
end

section
/-! SUPPORT. MULTIFRAME_BOUNDARY (O43) and the gates of the boundary evaluation (O44). -/

namespace Sys2Proof.Machine

variable {s t u v : State} {p : Port}

/-! ## What the evaluation takes (O44) -/

theorem State.hasSweep_eq_any (s : State) (p : Port) : s.hasSweep p = s.sweepQueue.any (fun e => e.2.1 = p) := by
  unfold State.hasSweep State.sweepOf State.sweepQueue
  rw [List.any_map, Bool.eq_iff_iff, List.find?_isSome, List.any_eq_true]
  rfl

theorem State.classAQueued_eq_any (s : State) : s.classAQueued = s.sweepQueue.any (fun e => e.1.classA) := by
  unfold State.classAQueued State.sweepQueue
  rw [List.any_map]
  rfl

theorem SweepKind.classA_iff (kind : SweepKind) : kind.classA = true ↔ kind = .roll ∨ kind = .unroll := by
  cases kind <;> simp [SweepKind.classA]

theorem PeerPhase.inTransmitSet_iff (ph : PeerPhase) :
    ph.inTransmitSet = true ↔ ∃ x, ph = .listed x ∧
      x ∈ [Phase.bridged, .armed, .rolling, .rolled, .releasing, .migrated, .unrolling] := by
  cases ph with
  | none => simp [PeerPhase.inTransmitSet]
  | absent => simp [PeerPhase.inTransmitSet]
  | listed x => cases x <;> simp [PeerPhase.inTransmitSet, Phase.inTransmitSet]

theorem PeerView.released_iff (w : PeerView) :
    w.released = true ↔ (w.phase = .listed .rolled ∧ w.commit = true) ∨ w.phase = .listed .releasing ∨
      w.phase = .listed .migrated := by
  cases h : w.phase with
  | none => simp [PeerView.released, h]
  | absent => simp [PeerView.released, h]
  | listed x => cases x <;> simp [PeerView.released, h]

/-- The roll gate (R126). -/
theorem State.rollGate_iff (s : State) (p : Port) :
    s.rollGate p = true ↔
      ((s.trunk p).phase = .bridged ∨ (s.trunk p).phase = .armed) ∧ s.faults.hold = false ∧
      0 < s.timing.silenceCountdown ∧
      ∃ b v ph d, (s.trunk p).binding = some b ∧ s.view p = some v ∧ b.fibreAlarm = false ∧ v.phase = .listed ph ∧
        ph ∈ [Phase.bridged, .armed, .rolling, .rolled, .releasing, .migrated, .unrolling] ∧
        v.alarm = false ∧ v.digest = some d ∧ d.toNat = b.digest := by
  have hphase : s.phase p = (s.trunk p).phase := rfl
  cases hb : (s.trunk p).binding with
  | none => simp [State.rollGate, hb]
  | some b =>
    cases hv : s.view p with
    | none => simp [State.rollGate, hb, hv]
    | some w =>
      simp only [State.rollGate, hb, hv, Bool.and_eq_true, Bool.or_eq_true, decide_eq_true_eq, Bool.not_eq_true',
        PeerPhase.inTransmitSet_iff, State.peerHeard, State.inHold, hphase, Option.map_eq_some_iff]
      constructor
      · rintro ⟨⟨⟨⟨⟨⟨hp, halarm⟩, hheard⟩, x, hx, hmem⟩, hpeer⟩, d, hd, hdigest⟩, hhold⟩
        exact ⟨hp, hhold, hheard, b, w, x, d, rfl, rfl, halarm, hx, hmem, hpeer, hd, hdigest⟩
      · rintro ⟨hp, hhold, hheard, b', w', x, d, hb', hw', halarm, hx, hmem, hpeer, hd, hdigest⟩
        obtain rfl := Option.some.inj hb'
        obtain rfl := Option.some.inj hw'
        exact ⟨⟨⟨⟨⟨⟨hp, halarm⟩, hheard⟩, x, hx, hmem⟩, hpeer⟩, d, hd, hdigest⟩, hhold⟩

/-- The release gate (R127). -/
theorem State.releaseGate_iff (s : State) (p : Port) :
    s.releaseGate p = true ↔
      (s.trunk p).commit = true ∧ s.faults.hold = false ∧ 0 < s.timing.silenceCountdown ∧
      ∃ v, s.view p = some v ∧
        ((v.phase = .listed .rolled ∧ v.commit = true) ∨ v.phase = .listed .releasing ∨
          v.phase = .listed .migrated) := by
  cases hv : s.view p with
  | none => simp [State.releaseGate, hv]
  | some w =>
    simp only [State.releaseGate, hv, Bool.and_eq_true, Bool.not_eq_true', PeerView.released_iff, State.peerHeard,
      State.inHold, decide_eq_true_eq, Option.some.injEq, exists_eq_left']
    constructor
    · rintro ⟨⟨⟨hc, hheard⟩, hreleased⟩, hhold⟩
      exact ⟨hc, hhold, hheard, hreleased⟩
    · rintro ⟨hc, hhold, hheard, hreleased⟩
      exact ⟨⟨⟨hc, hheard⟩, hreleased⟩, hhold⟩

theorem State.evaluated_iff (s : State) (p : Port) :
    s.evaluated p = true ↔ s.faults.hold = false ∧ (s.trunk p).lock = .unlocked := by
  simp [State.evaluated, State.inHold]

theorem State.epochReached_iff (s : State) (p : Port) :
    s.epochReached p = true ↔ ∃ e, (s.trunk p).epoch = some e ∧ (s.timing.multiframe - e).toNat < 32768 := by
  cases he : (s.trunk p).epoch with
  | none => simp [State.epochReached, he]
  | some e =>
    simp only [State.epochReached, he, Machine.epochReached, Option.some.injEq, exists_eq_left']
    exact decide_eq_true_iff

/-- The record that starts its roll (R131). -/
theorem State.rollCandidate_eq_some_iff (s : State) (p : Port) :
    s.rollCandidate = some p ↔
      (∀ sw ∈ s.sweepQueue, sw.1 ≠ .roll ∧ sw.1 ≠ .unroll) ∧
      ∃ earlier later, s.armedList = earlier ++ p :: later ∧ (∀ q ∈ earlier, s.mayRoll q = false) ∧
        s.mayRoll p = true := by
  have hclass : s.classAQueued = false ↔ ∀ sw ∈ s.sweepQueue, sw.1 ≠ .roll ∧ sw.1 ≠ .unroll := by
    rw [State.classAQueued_eq_any, List.any_eq_false]
    simp only [SweepKind.classA_iff, not_or]
  rw [← hclass, State.rollCandidate]
  cases hqueued : s.classAQueued with
  | true => simp
  | false =>
    rw [if_neg (by simp), List.find?_eq_some_iff_append]
    simp only [Bool.not_eq_true', true_and]
    constructor
    · rintro ⟨hp, earlier, later, heq, hearlier⟩
      exact ⟨earlier, later, heq, hearlier, hp⟩
    · rintro ⟨earlier, later, heq, hearlier, hp⟩
      exact ⟨hp, earlier, later, heq, hearlier⟩

/-- Settles O44. -/
theorem gatesOpenAsStated : Obligations.GatesOpenAsStated := by
  intro s p r free reached
  have hphase : s.phase p = r.phase := rfl
  have hfree : s.evaluated p = true ↔ free := s.evaluated_iff p
  have hreached : s.epochReached p = true ↔ reached := s.epochReached_iff p
  refine ⟨s.rollGate_iff p, s.releaseGate_iff p, ?_, ?_, ?_, ?_, ?_, ?_, s.rollCandidate_eq_some_iff p,
    fun l hl => ?_, fun l hroll hauto => ?_⟩
  · rw [State.wantsAutoStart, Bool.and_eq_true, Bool.and_eq_true, hfree, TrunkRecord.preparedBound_iff_exists,
      Option.isSome_iff_ne_none]
    grind
  · simp only [State.wantsAutoBridge, Bool.and_eq_true, hfree, hphase, decide_eq_true_eq, Option.isSome_iff_ne_none,
      Bool.not_eq_true']
    grind
  · simp only [State.wantsArming, Bool.and_eq_true, hfree, hphase, decide_eq_true_eq, Option.isSome_iff_ne_none,
      Bool.not_eq_true', Bool.or_eq_true]
    grind
  · simp only [State.wantsReturn, Bool.and_eq_true, hfree, hphase, decide_eq_true_eq, hreached, Bool.not_eq_true']
    grind
  · simp only [State.mayRoll, Bool.and_eq_true, hfree, hphase, decide_eq_true_eq, hreached]
    grind
  · simp only [State.wantsRelease, Bool.and_eq_true, hfree, hphase, decide_eq_true_eq, Option.isSome_iff_ne_none,
      Bool.or_eq_true]
    grind
  · rw [TrunkRecord.lead, hl, Option.getD_some]
  · rw [TrunkRecord.lead, hroll, hauto]
    rfl

/-! ## The steps of the timers (R99, R109) -/

theorem State.foldl_stepSoak_eq (l : List Port) (s : State) :
    l.foldl State.stepSoak s = { s with trunks := (l.foldl State.stepSoak s).trunks } := by
  induction l generalizing s with
  | nil => rfl
  | cons p l ih =>
    rw [List.foldl_cons, ih]
    unfold State.stepSoak
    split <;> rfl

/-- The soak step of each record (R109). -/
theorem State.trunk_foldl_stepSoak {l : List Port} (hl : l.Nodup) (s : State) (p : Port) :
    (l.foldl State.stepSoak s).trunk p =
      if p ∈ l ∧ s.phase p = .rolled then { s.trunk p with soak := (s.trunk p).soak.map (fun n => n - 1) }
      else s.trunk p := by
  induction l generalizing s with
  | nil => simp
  | cons q l ih =>
    obtain ⟨hq, hl⟩ := List.nodup_cons.mp hl
    have hstep : (s.stepSoak q).trunk p =
        if p = q ∧ s.phase p = .rolled then { s.trunk p with soak := (s.trunk p).soak.map (fun n => n - 1) }
        else s.trunk p := by
      unfold State.stepSoak
      by_cases hp : p = q
      · subst hp
        by_cases hrolled : s.phase p = .rolled
        · rw [if_pos hrolled, State.trunk_setTrunk, if_pos rfl, if_pos ⟨rfl, hrolled⟩]
        · rw [if_neg hrolled, if_neg fun h => hrolled h.2]
      · rw [if_neg fun h : p = q ∧ s.phase p = .rolled => hp h.1]
        by_cases hrolled : s.phase q = .rolled
        · rw [if_pos hrolled, State.trunk_setTrunk, if_neg hp]
        · rw [if_neg hrolled]
    rw [List.foldl_cons, ih hl, State.phase, hstep]
    by_cases hp : p = q
    · subst hp
      by_cases hrolled : s.phase p = .rolled <;> simp [hq, hrolled]
    · simp [hp, State.phase]

theorem State.stepTimers_eq (s : State) :
    s.stepTimers = { s with trunks := s.stepTimers.trunks, timing := s.timing.stepped, link := s.link.stepped } := by
  rw [State.stepTimers, State.foldl_stepSoak_eq]

theorem State.trunk_stepTimers (s : State) (p : Port) :
    s.stepTimers.trunk p =
      if s.phase p = .rolled then { s.trunk p with soak := (s.trunk p).soak.map (fun n => n - 1) } else s.trunk p := by
  rw [State.stepTimers, State.trunk_foldl_stepSoak allPorts_nodup]
  have hp : p ∈ allPorts := List.mem_finRange p
  simp only [hp, true_and]
  rfl

/-! ## The events of a boundary (R125) -/

theorem mem_dueIf {c : Bool} {d e : Due} : d ∈ dueIf c e ↔ c = true ∧ d = e := by
  cases c <;> simp [dueIf]

/-- The evaluation is decided alike at the end of an event that leaves the records and the queue (R125). -/
theorem State.resumed.wants (h : v.resumed t) :
    t.wantsAutoStart = v.wantsAutoStart ∧ t.wantsAutoBridge = v.wantsAutoBridge ∧ t.wantsArming = v.wantsArming ∧
      t.wantsReturn = v.wantsReturn ∧ t.wantsRelease = v.wantsRelease ∧ t.rollCandidate = v.rollCandidate := by
  obtain ⟨hrest, hqueue⟩ := h
  have hsweep : t.hasSweep = v.hasSweep := by
    funext p
    rw [State.hasSweep_eq_any, State.hasSweep_eq_any, hqueue]
  have hclass : t.classAQueued = v.classAQueued := by
    rw [State.classAQueued_eq_any, State.classAQueued_eq_any, hqueue]
  generalize t.sweeps = sweeps at hrest
  generalize t.arbiter = arbiter at hrest
  subst hrest
  refine ⟨rfl, ?_, ?_, rfl, rfl, ?_⟩
  · funext p
    simp only [State.wantsAutoBridge, hsweep]
    rfl
  · funext p
    simp only [State.wantsArming, hsweep]
    rfl
  · simp only [State.rollCandidate, hclass]
    rfl

theorem State.resumed.evaluation (h : v.resumed t) : t.evaluation = v.evaluation := by
  obtain ⟨hstart, hbridge, harming, hreturn, hrelease, hroll⟩ := h.wants
  have htrunk : t.trunk = v.trunk := by
    funext p
    exact (congrArg (State.trunk · p) h.1 :)
  unfold State.evaluation
  rw [hstart, hbridge, harming, hreturn, hrelease, hroll, htrunk]

/-- What the evaluation makes due (R125, R128 to R131, R135). -/
theorem State.mem_evaluation (s : State) (d : Due) :
    d ∈ s.evaluation ↔
      (∃ p, s.wantsReturn p = true ∧ d = .returnToBridged p) ∨
      (∃ p, (s.wantsAutoStart p = true ∧ d = .autoStart p) ∨ (s.wantsAutoBridge p = true ∧ d = .autoBridge p) ∨
        (s.wantsArming p = true ∧ d = .arming p (s.trunk p).lead) ∨
        (s.wantsRelease p = true ∧ d = .releaseAtBoundary p)) ∨
      (∃ p, s.rollCandidate = some p ∧ d = .rollStart p) := by
  have hall (q : Port) : q ∈ allPorts := List.mem_finRange q
  simp only [State.evaluation, List.mem_append, List.mem_map, List.mem_filter, List.mem_flatMap, mem_dueIf, hall,
    true_and, Option.mem_toList, Option.map_eq_some_iff, eq_comm (b := d), or_assoc]

/-- The arming that the evaluation takes for a record. -/
theorem State.arming_mem_evaluation (s : State) (p : Port) (l : Nat) :
    Due.arming p l ∈ s.evaluation ↔ s.wantsArming p = true ∧ l = (s.trunk p).lead := by
  simp only [State.mem_evaluation, reduceCtorEq, and_false, exists_false, false_or, or_false, Due.arming.injEq]
  constructor
  · rintro ⟨q, hwants, rfl, hl⟩
    exact ⟨hwants, hl⟩
  · rintro ⟨hwants, hl⟩
    exact ⟨p, hwants, rfl, hl⟩

/-- The events of a boundary, as it leaves the part. -/
theorem mem_boundaryEvents (before after : State) (d : Due) :
    d ∈ boundaryEvents before after ↔
      (before.timing.silenceCountdown = 1 ∧ d = .peerSilent) ∨
      (∃ p, before.soakEnding p = true ∧ d = .soakExpiry p) ∨ d ∈ after.evaluation ∨
      ((after.link.receiver ≠ .hunt ∧ 3 ≤ after.link.gap) ∧ d = .gapExpiry) ∨
      (before.timing.beaconCountdown = 1 ∧ d = .beaconCountdownExpiry) ∨
      (((before.timing.beaconCountdown = 0 ∧ after.timing.beaconCountdown = 0) ∨ after.link.changeDue = true) ∧
        d = .beaconTransmit) := by
  have hall (q : Port) : q ∈ allPorts := List.mem_finRange q
  simp only [boundaryEvents, List.mem_append, List.mem_map, List.mem_filter, mem_dueIf, hall, true_and,
    decide_eq_true_eq, Bool.and_eq_true, Bool.or_eq_true, bne_iff_ne, eq_comm (b := d), or_assoc]

/-- The steps of the evaluation among the events of a boundary (log 10). -/
theorem filter_boundaryEvents (before after : State) :
    (boundaryEvents before after).filter Due.inEvaluation =
      (allPorts.filter before.soakEnding).map Due.soakExpiry ++ after.evaluation := by
  have hother (c : Bool) {d : Due} (hd : d.inEvaluation = false) : (dueIf c d).filter Due.inEvaluation = [] :=
    List.filter_eq_nil_iff.mpr fun e he => by rw [(mem_dueIf.mp he).2, hd]; simp
  have hsoak : ((allPorts.filter before.soakEnding).map Due.soakExpiry).filter Due.inEvaluation =
      (allPorts.filter before.soakEnding).map Due.soakExpiry :=
    List.filter_eq_self.mpr fun d hd => by
      obtain ⟨p, -, rfl⟩ := List.mem_map.mp hd
      rfl
  have heval : after.evaluation.filter Due.inEvaluation = after.evaluation :=
    List.filter_eq_self.mpr fun d hd => by
      rcases (after.mem_evaluation d).mp hd with ⟨p, -, rfl⟩ | ⟨p, h⟩ | ⟨p, -, rfl⟩
      · rfl
      · rcases h with ⟨-, rfl⟩ | ⟨-, rfl⟩ | ⟨-, rfl⟩ | ⟨-, rfl⟩ <;> rfl
      · rfl
  simp only [boundaryEvents, List.filter_append, hsoak, heval]
  rw [hother _ rfl, hother _ rfl, hother _ rfl, hother _ rfl]
  simp

/-- The events of a boundary that is the one event due: taken from the state that its timer steps leave. -/
theorem State.takeBoundary_eq (hdue : s.due = [.boundary]) :
    s.takeBoundary = ({ ({ s with due := [] } : State).stepTimers with
      due := boundaryEvents { s with due := [] } ({ s with due := [] } : State).stepTimers } : State).resume := by
  have htake : s.takeDue .boundary = { s with due := [] } := by
    rw [State.takeDue, hdue]
    rfl
  have hnone : ({ s with due := [] } : State).stepTimers.due = [] := by rw [State.stepTimers_eq]
  rw [State.takeBoundary, State.onDue_of_mem _ (by rw [hdue]; exact List.mem_singleton_self _), htake]
  dsimp only
  rw [hnone, List.nil_append]

/-- What a boundary leaves (R99, R109 to R111, R164, R173): the timers stepped, and its events due. -/
theorem State.boundary_spec (hdue : s.due = [.boundary]) :
    ∃ t, exec .multiframeBoundary s = .next t ∧ t.timing = s.timing.stepped ∧ t.link = s.link.stepped ∧
      (∀ p, t.trunk p =
        if s.phase p = .rolled then { s.trunk p with soak := (s.trunk p).soak.map (fun n => n - 1) }
        else s.trunk p) ∧
      t = { s with timing := t.timing, trunks := t.trunks, link := t.link, due := t.due, sweeps := t.sweeps,
                   arbiter := t.arbiter } ∧
      t.sweepQueue = s.sweepQueue ∧ t.due.filter Due.inEvaluation =
        (allPorts.filter s.soakEnding).map Due.soakExpiry ++ t.evaluation ∧
      ∀ d, d ∈ t.due ↔
        (s.timing.silenceCountdown = 1 ∧ d = .peerSilent) ∨ (∃ p, s.soakEnding p = true ∧ d = .soakExpiry p) ∨
        d ∈ t.evaluation ∨ ((t.link.receiver ≠ .hunt ∧ 3 ≤ t.link.gap) ∧ d = .gapExpiry) ∨
        (s.timing.beaconCountdown = 1 ∧ d = .beaconCountdownExpiry) ∨
        (((s.timing.beaconCountdown = 0 ∧ t.timing.beaconCountdown = 0) ∨ t.link.changeDue = true) ∧
          d = .beaconTransmit) := by
  obtain ⟨after, hafter⟩ : ∃ after, after = ({ s with due := [] } : State).stepTimers := ⟨_, rfl⟩
  have hframe := ({ s with due := [] } : State).stepTimers_eq
  have htrunk := ({ s with due := [] } : State).trunk_stepTimers
  have htake := State.takeBoundary_eq hdue
  rw [← hafter] at hframe htrunk htake
  have hresumed : ({ after with due := boundaryEvents { s with due := [] } after } : State).resumed s.takeBoundary := by
    rw [htake]
    exact State.resumed_resume _
  refine ⟨s.takeBoundary, rfl, ?_⟩
  generalize s.takeBoundary = t at hresumed ⊢
  have heval : t.evaluation = after.evaluation := hresumed.evaluation
  obtain ⟨hrest, hqueue⟩ := hresumed
  have htiming : t.timing = after.timing := (congrArg State.timing hrest :)
  have hlink : t.link = after.link := (congrArg State.link hrest :)
  have htdue : t.due = boundaryEvents { s with due := [] } after := (congrArg State.due hrest :)
  have hsame (p : Port) : t.trunk p = after.trunk p := (congrArg (State.trunk · p) hrest :)
  refine ⟨?_, ?_, fun p => (hsame p).trans (htrunk p), ?_, ?_, ?_, fun d => ?_⟩
  · rw [htiming, hframe]
  · rw [hlink, hframe]
  · obtain ⟨trunks, hv⟩ : ∃ trunks, after = ({ s with
        trunks := trunks, timing := s.timing.stepped, link := s.link.stepped, due := [] } : State) := ⟨_, hframe⟩
    rw [hrest, hv]
  · rw [hqueue, State.sweepQueue, State.sweepQueue, hframe]
  · rw [htdue, filter_boundaryEvents, heval]
    rfl
  · rw [htdue, mem_boundaryEvents, heval, htiming, hlink]
    rfl

/-- Settles O43. -/
theorem boundaryStepsEveryTimer : Obligations.BoundaryStepsEveryTimer := by
  intro s hdue
  obtain ⟨t, hexec, htiming, hlink, htrunk, hframe, hqueue, hsteps, hmem⟩ := State.boundary_spec hdue
  have hcountdown : t.timing.beaconCountdown = s.timing.beaconCountdown - 1 := by rw [htiming]; rfl
  refine ⟨t, hexec, htiming, htrunk, hlink, hframe, hqueue, ?_, fun p => ?_, ?_, ?_, ?_, fun p => ⟨?_, ?_, fun l => ?_, ?_, ?_⟩,
    fun p => ?_, ?_⟩
  · simp [hmem, State.mem_evaluation]
  · simp [hmem, State.mem_evaluation, State.soakEnding]
  · simp [hmem, State.mem_evaluation]
  · simp [hmem, State.mem_evaluation]
  · have hzero : s.timing.beaconCountdown = 0 ∧ t.timing.beaconCountdown = 0 ↔ s.timing.beaconCountdown = 0 := by omega
    simp [hmem, State.mem_evaluation, hzero]
  · simp [hmem, State.mem_evaluation]
  · simp [hmem, State.mem_evaluation]
  · simp [hmem, State.arming_mem_evaluation]
  · simp [hmem, State.mem_evaluation]
  · simp [hmem, State.mem_evaluation]
  · simp [hmem, State.mem_evaluation]
  · rw [hsteps, State.evaluation]
    cases t.rollCandidate <;> simp [dueIf] <;> rfl

end Sys2Proof.Machine
end

section
/-! SUPPORT. The steps of the boundary evaluation, each in its turn (O45, O46, O47). -/

namespace Sys2Proof.Machine

variable {s t u v : State} {p : Port} {r : TrunkRecord} {armed : List Port} {queue : List (SweepKind × Port × Nat)}

/-- A step of the evaluation that changes a phase takes its effect at the end of the unit in progress (R125). -/
theorem State.onPhaseStep_resumed {d : Due} (effect : State → State) (h : s.nextStep = some d) :
    (effect (s.takeDue d).atBoundary).resumed (s.onPhaseStep d effect) := by
  rw [State.onPhaseStep, State.onStep_of_next _ h]
  exact (State.resumed_moveCursorOf _ _).trans (State.resumed_resume _)

/-! ## SOAK_EXPIRY, RELEASE_AT_BOUNDARY, ARMING and RETURN_TO_BRIDGED (O45) -/

theorem State.movedAlone_releaseRecord (u : State) (p : Port) :
    u.movedAlone (u.releaseRecord p) p { u.trunk p with phase := .releasing, releaseRequest := false, soak := none }
      u.armedList (joinQueue u.sweepQueue .release p) :=
  (u.movedAlone_changeTrunk p _).queueSweep .release p

theorem State.movedAlone_armRecord (u : State) (p : Port) (lead : Nat) :
    u.movedAlone (u.armRecord p lead) p
      { u.trunk p with phase := .armed, epoch := some (u.timing.multiframe + BitVec.ofNat 16 lead) }
      (u.armedList ++ [p]) u.sweepQueue :=
  ⟨⟨fun q => u.trunk_changeTrunk p q _, rfl, rfl, rfl, rfl⟩, rfl, rfl⟩

theorem State.movedAlone_rollRecord (u : State) (p : Port) :
    u.movedAlone (u.rollRecord p) p
      { u.trunk p with phase := .rolling, rollRequest := none, rollStart := some u.timing.multiframe, epoch := none }
      (u.armedList.erase p) (joinQueue u.sweepQueue .roll p) :=
  ((u.movedAlone_changeTrunk p _).leaveArmedList p).queueSweep .roll p

theorem State.takeArming_of_next {lead : Nat} (h : s.nextStep = some (.arming p lead)) :
    s.takeArming p = s.onPhaseStep (.arming p lead) (fun u =>
      if u.phase p = .bridged && !u.hasSweep p then u.armRecord p lead else u) := by
  simp only [State.takeArming, h, if_true]

theorem State.takeArming_of_not_next (h : ∀ lead, s.nextStep ≠ some (.arming p lead)) : s.takeArming p = s := by
  unfold State.takeArming
  split
  · next q lead hnext =>
    split
    · next hq => exact absurd (hq ▸ hnext) (h lead)
    · rfl
  · rfl

theorem State.takeRollStart_of_next (h : s.nextStep = some (.rollStart p)) :
    s.takeRollStart = s.onPhaseStep (.rollStart p) (fun u => u.startRoll p) := by
  simp only [State.takeRollStart, h]

theorem State.takeRollStart_of_not_next (h : ∀ q, s.nextStep ≠ some (.rollStart q)) : s.takeRollStart = s := by
  unfold State.takeRollStart
  split
  · next q hnext => exact absurd hnext (h q)
  · rfl

/-- Settles O45. -/
theorem evaluationStepsChangeThePhase : Obligations.EvaluationStepsChangeThePhase := by
  refine ⟨fun s p => ⟨fun hnext hphase => ⟨_, rfl, ?_⟩, fun hnext => ⟨_, rfl, ?_⟩⟩,
    fun s p => ⟨fun lead hnext => ⟨_, rfl, ?_⟩, fun hnext => ⟨_, rfl, ?_⟩⟩, fun s p => ?_⟩
  · intro u
    have hcommit : u.commitRecord p = u.changeTrunk p { u.trunk p with commit := true } := by
      have hphase' : u.phase p = .rolled := hphase
      simp only [State.commitRecord, hphase']
    rw [State.takeSoakExpiry, State.onStep_of_next _ hnext, hcommit]
    exact (u.movedAlone_changeTrunk p _).resume
  · intro u
    have hstep : (if u.phase p = .rolled && (u.trunk p).commit then u.releaseRecord p else u).resumed
        (s.takeRelease p) :=
      State.onPhaseStep_resumed _ hnext
    clear_value u
    by_cases h : u.phase p = .rolled ∧ (u.trunk p).commit = true
    · rw [if_pos (by simp [h])] at hstep
      rw [if_pos h]
      exact (u.movedAlone_releaseRecord p).of_resumed hstep
    · rw [if_neg (by simpa using h)] at hstep
      rwa [if_neg h]
  · intro u
    have hstep : (if u.phase p = .bridged && !u.hasSweep p then u.armRecord p lead else u).resumed
        (s.takeArming p) := by
      rw [State.takeArming_of_next hnext]
      exact State.onPhaseStep_resumed _ hnext
    clear_value u
    by_cases h : u.phase p = .bridged ∧ u.hasSweep p = false
    · rw [if_pos (by simp [h])] at hstep
      rw [if_pos h]
      exact (u.movedAlone_armRecord p lead).of_resumed hstep
    · rw [if_neg (by simpa using h)] at hstep
      rwa [if_neg h]
  · intro u
    have hstep : (if u.phase p = .armed then u.returnFromArmed p else u).resumed (s.takeReturn p) :=
      State.onPhaseStep_resumed _ hnext
    clear_value u
    split
    · next h =>
      rw [if_pos h] at hstep
      exact (u.movedAlone_returnFromArmed p).of_resumed hstep
    · next h => rwa [if_neg h] at hstep
  · have hother {d : Due} (effect : State → State) (h : s.nextStep ≠ some d) : s.onPhaseStep d effect = s :=
      State.onStep_of_not_next _ h
    refine ⟨fun h => ?_, fun h => ?_, fun h => ?_, fun h => ?_, fun h => ?_, fun h => ?_, fun h => ?_, fun h => ?_⟩
    · exact congrArg Host.Outcome.next (State.onStep_of_not_next _ h)
    · exact congrArg Host.Outcome.next (hother _ h)
    · exact congrArg Host.Outcome.next (hother _ h)
    · exact congrArg Host.Outcome.next (hother _ h)
    · exact congrArg Host.Outcome.next (State.takeArming_of_not_next h)
    · exact congrArg Host.Outcome.next (hother _ h)
    · exact congrArg Host.Outcome.next (State.takeRollStart_of_not_next h)
    · have hwaits : s.gapWaits = true := by
        rw [State.gapWaits, State.evaluating, Bool.or_eq_true]
        exact .inl (by rwa [← List.isSome_find?, Option.isSome_iff_ne_none])
      exact congrArg Host.Outcome.next (by rw [State.takeGapExpiry, if_pos hwaits])

/-! ## AUTO_START and AUTO_BRIDGE (O46) -/

theorem State.started.of_resumed (h : u.started v p) (hport : v.port = u.port) (hchannel : v.channel = u.channel)
    (ht : v.resumed t) : u.started t p ∧ t.port = u.port ∧ t.channel = u.channel := by
  obtain ⟨htrunk, hqueue, hview, hlink, hframe⟩ := h
  obtain ⟨hresume, hseen⟩ := ht
  generalize t.sweeps = sweeps at hresume
  generalize t.arbiter = arbiter at hresume
  subst hresume
  refine ⟨⟨htrunk, hseen.trans hqueue, hview, hlink, ?_⟩, hport, hchannel⟩
  conv => lhs; rw [hframe]

/-- Settles O46. -/
theorem automaticStepsActAsTheCommands : Obligations.AutomaticStepsActAsTheCommands := by
  refine fun s p => ⟨fun hnext => ⟨_, rfl, ?_⟩, fun hnext => ⟨_, rfl, ?_⟩⟩
  · intro u starts
    have hstep : (if (u.trunk p).preparedBound && u.announcedCount < 8 then u.startRecord p else u).resumed
        (s.takeAutoStart p) :=
      State.onPhaseStep_resumed _ hnext
    have hstarts : ((u.trunk p).preparedBound && decide (u.announcedCount < 8)) = true ↔ starts := by
      rw [Bool.and_eq_true, TrunkRecord.preparedBound_iff_exists, decide_eq_true_iff, and_assoc]
      rfl
    clear_value u
    refine ⟨fun h => ?_, fun h => ?_⟩
    · rw [if_pos (hstarts.mpr h)] at hstep
      obtain ⟨-, ⟨b, hb, -⟩, -⟩ := h
      obtain ⟨hport, hchannel⟩ := u.startRecord_port_channel p
      exact (State.started_startRecord hb).of_resumed hport hchannel hstep
    · rwa [if_neg fun h' => h (hstarts.mp h')] at hstep
  · intro u
    have hstep : (if u.phase p = .tracked && !u.hasSweep p then u.bridgeRecord p else u).resumed (s.takeAutoBridge p) :=
      State.onPhaseStep_resumed _ hnext
    clear_value u
    by_cases h : u.phase p = .tracked ∧ u.hasSweep p = false
    · rw [if_pos (by simp [h])] at hstep
      rw [if_pos h]
      exact (u.movedAlone_bridgeRecord p).of_resumed hstep
    · rw [if_neg (by simpa using h)] at hstep
      rwa [if_neg h]

/-! ## ROLL_START (O47) -/

/-- A fault raised with the store free dispatches at once (R180, R185). -/
theorem State.raise_free (h : s.arbiter.inProgress = none) (src : FaultSource) (o : Option Port) :
    s.raise src o = (s.recordOccurrence src o).dispatchFor (src, o) := by
  have hfree : (s.recordOccurrence src o).arbiter.inProgress = none := by rw [State.recordOccurrence_arbiter, h]
  unfold State.raise State.dispatchFor
  dsimp only
  split
  · rw [State.atUnitEnd_of_free _ hfree]
  · rfl

/-- Faults raised with the store free. -/
theorem State.raised_raise (h : s.arbiter.inProgress = none) (src : FaultSource) (o : Option Port) :
    s.raised (s.raise src o) [(src, o)] := by
  have hone := s.fallsBack_refl.raisedOne (src, o)
  rw [State.raised, State.reachedBy_eq, State.raise_free h]
  simpa using hone

theorem State.raised.of_resumed {os : List Occurrence} (h : u.raised v os) (ht : v.resumed t) : u.raised t os :=
  State.fallsBack.of_resumed h ht

/-- Settles O47. -/
theorem rollStartTakesTheFirstReadyRecord : Obligations.RollStartTakesTheFirstReadyRecord := by
  intro s p hnext
  refine ⟨_, rfl, ?_⟩
  intro u rolls
  have hstep : (u.startRoll p).resumed s.takeRollStart := by
    rw [State.takeRollStart_of_next hnext]
    exact State.onPhaseStep_resumed _ hnext
  have hfree : u.arbiter.inProgress = none := State.atBoundary_free _
  have hrolls : rolls (u.rollRecord p) := u.movedAlone_rollRecord p
  refine ⟨fun e hphase he => ?_, fun hphase => ?_⟩
  · have hlate : u.rollsLate p = true ↔ u.timing.multiframe ≠ e := by
      have hzero : (u.timing.multiframe - e).toNat = 0 ↔ u.timing.multiframe = e := by bv_omega
      rw [State.rollsLate, he]
      exact decide_eq_true_iff.trans (Nat.pos_iff_ne_zero.trans (not_congr hzero))
    by_cases hm : u.timing.multiframe = e
    · rw [State.startRoll, if_pos hphase, if_neg fun h => hlate.mp h hm] at hstep
      rw [if_pos hm]
      exact hrolls.of_resumed hstep
    · rw [State.startRoll, if_pos hphase, if_pos (hlate.mpr hm)] at hstep
      rw [if_neg hm]
      exact ⟨_, hrolls, (State.raised_raise (s := u.rollRecord p) hfree .rollLate (some p)).of_resumed hstep⟩
  · rwa [State.startRoll, if_neg hphase] at hstep

end Sys2Proof.Machine
end

section
/-! SUPPORT. The receiver, discarded frames and their re-taking (O50, O51). -/

namespace Sys2Proof.Machine

variable {s t u v : State}

/-! ## What the receiver does with a byte in each of its states (R162) -/

section
variable {l : PeerLink} (disabled : Bool) (b : Byte)

theorem PeerLink.takeByte_hunt (h : l.receiver = .hunt) :
    l.takeByte disabled b =
      if b = openingByte then ({ l with held := [b], gap := 0, receiver := .kind }, none) else (l, none) := by
  simp only [PeerLink.takeByte, h]

theorem PeerLink.takeByte_kind (h : l.receiver = .kind) : l.takeByte disabled b = (l.hold b .length, none) := by
  simp only [PeerLink.takeByte, h]

theorem PeerLink.takeByte_length (h : l.receiver = .length) :
    l.takeByte disabled b =
      if b = 0 then (l.hold b .check, none)
      else if b.toNat ≤ 60 then (l.hold b .payload, none) else (l.hold b .length, some .frameDiscard) := by
  simp only [PeerLink.takeByte, h]

theorem PeerLink.takeByte_payload (h : l.receiver = .payload) :
    l.takeByte disabled b =
      (l.hold b (if (l.held ++ [b]).length = 3 + ((l.held ++ [b]).getD 2 0).toNat then .check else .payload), none) := by
  simp only [PeerLink.takeByte, h]
  split
  · next hlast => exact congrArg (fun next => (l.hold b next, none)) (if_pos hlast).symm
  · next hlast => exact congrArg (fun next => (l.hold b next, none)) (if_neg hlast).symm

theorem PeerLink.takeByte_check (h : l.receiver = .check) :
    l.takeByte disabled b =
      if byteSum ((l.held ++ [b]).drop 1) = 0 then
        ({ l with receiver := .hunt, held := [], gap := 0 }, some (heldFrame disabled (l.held ++ [b])))
      else (l.hold b .check, some .frameDiscard) := by
  simp only [PeerLink.takeByte, h]
  exact ite_congr (propext decide_eq_true_iff) (fun _ => rfl) (fun _ => rfl)

end

/-! ## The receiver (O50) -/

/-- A character that the receiver takes with nothing due leaves the receiver's link and the event it makes due. -/
theorem State.quiet.received (h : s.quiet) (r : PeerLink × Option Due) :
    ({ s with link := r.1, due := r.2.toList } : State).resumed (s.settle.received r).resume := by
  have hsettled : ({ s with link := r.1, due := r.2.toList } : State).resumed (s.settle.received r) := by
    obtain ⟨hrest, hqueue⟩ := s.resumed_resume
    rw [State.settle_of_nothing_due h, State.received, State.resume_due, h.due, List.append_nil]
    refine ⟨?_, hqueue⟩
    conv => lhs; rw [hrest]
  exact hsettled.trans (State.resumed_resume _)

/-- BYTE_TAKEN with nothing due: the receiver of the link takes the byte. -/
theorem State.quiet.byteTaken (h : s.quiet) (b : Byte) {r : PeerLink × Option Due}
    (hr : s.link.takeByte s.linkDisabled b = r) :
    ({ s with link := r.1, due := r.2.toList } : State).resumed (s.settle.takeCharacter (.byte b)).resume := by
  have hlink : s.settle.link = s.link := by rw [State.settle_of_nothing_due h, State.resume_link]
  have hdisabled : s.settle.linkDisabled = s.linkDisabled := by
    rw [State.settle_of_nothing_due h, State.linkDisabled, State.resume_straps, State.linkDisabled]
  rw [State.takeCharacter, hlink, hdisabled, hr]
  exact h.received r

/-- BYTE_TAKEN of a character in error with nothing due (R163). -/
theorem State.quiet.inError (h : s.quiet) :
    ({ s with due := if s.link.receiver = .hunt then [] else [.frameDiscard] } : State).resumed
      (s.settle.takeCharacter .inError).resume := by
  have hlink : s.settle.link = s.link := by rw [State.settle_of_nothing_due h, State.resume_link]
  rw [State.takeCharacter, hlink]
  split
  · rw [State.settle_of_nothing_due h, ← h.due]
    exact s.resumed_resume.trans (State.resumed_resume _)
  · exact h.received (s.link, some .frameDiscard)

/-- Settles O50. -/
theorem receiverTakesEachByte : Obligations.ReceiverTakesEachByte := by
  intro s b h
  refine ⟨⟨_, rfl, h.inError⟩, _, rfl, ?_⟩
  have htaken (r : PeerLink × Option Due) (hr : s.link.takeByte s.linkDisabled b = r) := h.byteTaken b hr
  dsimp only
  rcases hreceiver : s.link.receiver
  case hunt =>
    have hbyte := PeerLink.takeByte_hunt s.linkDisabled b hreceiver
    dsimp only
    split
    · next hb => exact htaken _ (hbyte.trans (if_pos hb))
    · next hb => exact htaken (s.link, none) (hbyte.trans (if_neg hb))
  case kind =>
    have hheld := htaken _ (PeerLink.takeByte_kind s.linkDisabled b hreceiver)
    exact hheld
  case length =>
    have hbyte := PeerLink.takeByte_length s.linkDisabled b hreceiver
    dsimp only
    split
    · next hb => exact htaken (s.link.hold b .check, none) (hbyte.trans (if_pos hb))
    next hb =>
    split
    · next hn => exact htaken (s.link.hold b .payload, none) (hbyte.trans ((if_neg hb).trans (if_pos hn)))
    · next hn => exact htaken (s.link.hold b .length, some .frameDiscard) (hbyte.trans ((if_neg hb).trans (if_neg hn)))
  case payload =>
    have hheld := htaken _ (PeerLink.takeByte_payload s.linkDisabled b hreceiver)
    exact hheld
  case check =>
    have hbyte := PeerLink.takeByte_check s.linkDisabled b hreceiver
    dsimp only
    split
    · next hb => exact htaken (_, some _) (hbyte.trans (if_pos hb))
    · next hb => exact htaken (s.link.hold b .check, some .frameDiscard) (hbyte.trans (if_neg hb))

/-! ## FRAME_IGNORED, FRAME_DISCARD and GAP_EXPIRY (O51) -/

/-- The link of a frame in progress that is discarded: HUNT, the held bytes behind the opening one to be re-taken. -/
def State.discarding (s : State) : State :=
  { s with link := { s.link with
      receiver := .hunt, held := [], gap := 0, retaking := s.link.held.drop 1 ++ s.link.retaking } }

/-- The fault of a discard: LINK_FRAME, unless the link is disabled (R163, R165). -/
def State.discardFault (s : State) : State :=
  if s.linkDisabled then s.discarding else s.discarding.raise .linkFrame none

theorem State.discardFrame_eq (s : State) : s.discardFrame = s.discardFault.goOnRetaking := rfl

/-- A fault leaves the peer link as it was, but for a change pending. -/
theorem State.raise_link (s : State) (src : FaultSource) (o : Option Port) :
    ∃ c, (s.raise src o).link = { s.link with changePending := c } := by
  have hraised := State.raisesAt_raise s src o ⟨rfl, rfl⟩
  rw [State.raisesAt] at hraised
  split at hraised
  · obtain ⟨-, -, c, hc⟩ := State.collectsTo_atBoundary { s with faults := s.collected [(src, o)] }
    obtain ⟨-, -, -, hlink, -⟩ := hraised
    exact ⟨_, by rw [hlink, hc]⟩
  · exact ⟨s.link.changePending, (congrArg State.link hraised.1 :)⟩

/-- In HUNT bytes without an opening one are all ignored (R162). -/
theorem PeerLink.retake_of_no_opening {l : PeerLink} (hhunt : l.receiver = .hunt) {bytes : List Byte}
    (h : openingByte ∉ bytes) (disabled : Bool) :
    PeerLink.retake disabled bytes l = ({ l with retaking := [] }, none) := by
  induction bytes with
  | nil => rfl
  | cons b rest ih =>
    obtain ⟨hb, hrest⟩ := List.ne_and_not_mem_of_not_mem_cons h
    rw [PeerLink.retake, PeerLink.takeByte_hunt disabled b hhunt, if_neg (Ne.symm hb)]
    exact ih hrest

/-- What a discard does, for either of its events. -/
theorem State.discard_spec (d : Due) (h : d ∈ s.due) :
    ∃ v, v.goesOn (s.onDue d State.discardFrame) ∧
      let bytes := s.link.held.drop 1 ++ s.link.retaking
      (if s.linkDisabled = true then v = (s.takeDue d).discarding
        else (s.takeDue d).discarding.raisesAt v .linkFrame none) ∧
      (openingByte ∉ bytes →
        ({ v with link := { v.link with retaking := [] } } : State).resumed (s.onDue d State.discardFrame)) := by
  obtain ⟨v, hv⟩ : ∃ v, v = (s.takeDue d).discardFault := ⟨_, rfl⟩
  have hevent : s.onDue d State.discardFrame = v.goOnRetaking.resume := by
    rw [State.onDue_of_mem _ h, State.discardFrame_eq, hv]
  have hlink : v.link.receiver = .hunt ∧ v.link.retaking = s.link.held.drop 1 ++ s.link.retaking := by
    rw [hv, State.discardFault]
    split
    · exact ⟨rfl, rfl⟩
    · obtain ⟨c, hc⟩ := (s.takeDue d).discarding.raise_link .linkFrame none
      rw [hc]
      exact ⟨rfl, rfl⟩
  refine ⟨v, hevent ▸ v.goesOn_goOnRetaking, ?_, fun hopening => ?_⟩
  · rw [hv, State.discardFault]
    split
    · next hoff => exact if_pos hoff
    · next hon =>
      refine State.raisesAt_raise _ _ _ ?_
      rw [if_neg (show ¬ (s.takeDue d).linkDisabled = true from hon)]
      exact ⟨rfl, rfl⟩
  · have hretake := PeerLink.retake_of_no_opening hlink.1 (hlink.2 ▸ hopening) v.linkDisabled
    rw [hevent, State.goOnRetaking, hretake]
    exact State.resumed_resume _

/-- A gap expiry waits for the transition to silence and the steps of the evaluation of its boundary (log 10). -/
theorem State.gapWaits_iff (s : State) : s.gapWaits = true ↔ s.nextStep ≠ none ∨ Due.peerSilent ∈ s.due := by
  rw [State.gapWaits, State.evaluating, Bool.or_eq_true, ← List.isSome_find?, Option.isSome_iff_ne_none,
    List.contains_iff_mem]
  rfl

/-- Settles O51. -/
theorem discardedFramesAreRetaken : Obligations.DiscardedFramesAreRetaken := by
  intro s
  refine ⟨fun h => ⟨_, rfl, ?_⟩, fun d hd h hwaits => ?_, fun h => ?_⟩
  · rw [State.takeFrameIgnored, State.onDue_of_mem _ h]
    exact State.goesOn_goOnRetaking _
  · obtain ⟨v, hgoes, hfault, hignored⟩ := s.discard_spec d h
    refine ⟨v, s.onDue d State.discardFrame, ?_, hgoes, hfault, hignored⟩
    rcases hd with rfl | rfl
    · rfl
    · obtain ⟨hstep, hsilent⟩ := hwaits rfl
      have hturn : ¬ s.gapWaits = true := fun h => (s.gapWaits_iff.mp h).elim (absurd hstep) (absurd · hsilent)
      exact congrArg Host.Outcome.next (if_neg hturn)
  · exact congrArg Host.Outcome.next (if_pos (s.gapWaits_iff.mpr h))

end Sys2Proof.Machine
end

section
/-! SUPPORT. The beacon and its transmission (O48). -/

namespace Sys2Proof.Machine

variable {s t u v : State} {p : Port}

/-! ## Lingering that ends with the beacon (R137, R173) -/

/-- Whether record `p` stops lingering when a beacon begins (R137). -/
def State.endsLingering (s : State) (p : Port) : Bool :=
  s.phase p = .migrated && (s.trunk p).lingering && ((s.view p).map PeerView.peerReleased).getD false

theorem State.endLingering_eq (s : State) (p : Port) :
    s.endLingering p =
      if s.endsLingering p = true then (s.setTrunk p { s.trunk p with lingering := false }).setView p none else s := by
  unfold State.endLingering State.endsLingering
  split
  · next v hphase hview => simp [hphase, hview]
  · next hnot =>
    rw [if_neg]
    intro h
    simp only [Bool.and_eq_true, decide_eq_true_eq] at h
    obtain ⟨⟨hphase, -⟩, hreleased⟩ := h
    cases hview : s.view p with
    | none => simp [hview] at hreleased
    | some v => exact hnot v hphase hview

theorem State.trunk_endLingering (s : State) (p q : Port) :
    (s.endLingering p).trunk q =
      if q = p ∧ s.endsLingering p = true then { s.trunk p with lingering := false } else s.trunk q := by
  rw [State.endLingering_eq]
  by_cases h : s.endsLingering p = true
  · rw [if_pos h]
    change (s.setTrunk p _).trunk q = _
    rw [State.trunk_setTrunk]
    simp [h]
  · rw [if_neg h, if_neg fun hp => h hp.2]

theorem State.view_endLingering (s : State) (p q : Port) :
    (s.endLingering p).view q = if q = p ∧ s.endsLingering p = true then none else s.view q := by
  rw [State.endLingering_eq]
  by_cases h : s.endsLingering p = true
  · rw [if_pos h, State.view_setView]
    simp [h]
    rfl
  · rw [if_neg h, if_neg fun hp => h hp.2]

/-- Each record stops lingering by its own items, and once. -/
theorem State.endsLingering_endLingering (s : State) (p q : Port) :
    (s.endLingering p).endsLingering q = (decide (q ≠ p) && s.endsLingering q) := by
  have htrunk := s.trunk_endLingering p q
  have hview := s.view_endLingering p q
  by_cases hq : q = p
  · subst hq
    rw [decide_eq_false (by simp), Bool.false_and]
    cases h : s.endsLingering q with
    | true =>
      rw [if_pos ⟨rfl, h⟩] at htrunk
      rw [State.endsLingering, htrunk]
      simp
    | false => rw [State.endLingering_eq, if_neg (by simp [h]), h]
  · rw [if_neg fun h => hq h.1] at htrunk hview
    rw [State.endsLingering, State.endsLingering, State.phase, htrunk, hview, decide_eq_true hq, Bool.true_and]
    rfl

theorem State.endLingering_frame (s : State) (p : Port) :
    ∃ trunks views, s.endLingering p = { s with trunks := trunks, link := { s.link with views := views } } := by
  rw [State.endLingering_eq]
  split
  · exact ⟨_, _, rfl⟩
  · exact ⟨s.trunks, s.link.views, rfl⟩

/-- The records of a list that stop lingering. -/
theorem State.foldl_endLingering (l : List Port) (s : State) :
    (∀ q, (l.foldl State.endLingering s).trunk q =
      if q ∈ l ∧ s.endsLingering q = true then { s.trunk q with lingering := false } else s.trunk q) ∧
    (∀ q, (l.foldl State.endLingering s).view q =
      if q ∈ l ∧ s.endsLingering q = true then none else s.view q) ∧
    ∃ trunks views, l.foldl State.endLingering s =
      { s with trunks := trunks, link := { s.link with views := views } } := by
  induction l generalizing s with
  | nil => exact ⟨fun q => by simp, fun q => by simp, s.trunks, s.link.views, rfl⟩
  | cons p l ih =>
    obtain ⟨htrunk, hview, trunks, views, hframe⟩ := ih (s.endLingering p)
    obtain ⟨trunks', views', hone⟩ := s.endLingering_frame p
    rw [List.foldl_cons]
    refine ⟨fun q => ?_, fun q => ?_, trunks, views, ?_⟩
    · rw [htrunk q, State.endsLingering_endLingering, State.trunk_endLingering]
      by_cases hq : q = p <;> simp [hq]
    · rw [hview q, State.endsLingering_endLingering, State.view_endLingering]
      by_cases hq : q = p <;> simp [hq]
    · rw [hframe, hone]

/-- The state with the bytes of a beacon taken, before lingering ends (R174). -/
def State.beaconTaken (s : State) : State :=
  { s with
    link := { s.link with transmitter := some s.beaconBytes, changeDue := false },
    timing := { s.timing with beaconCountdown := s.timing.beaconPeriod } }

theorem State.beginBeacon_eq (s : State) : s.beginBeacon = allPorts.foldl State.endLingering s.beaconTaken := rfl

/-! ## BEACON_COUNTDOWN_EXPIRY, BEACON_TRANSMIT and TRANSMIT_COMPLETE (O48) -/

/-- The part after an event that leaves these events due and nothing else changed. -/
theorem State.resumed_due {due : List Due} (h : ({ s with due := due } : State).resumed t) :
    t.due = due ∧ s.resumed { t with due := s.due } := by
  obtain ⟨hrest, hqueue⟩ := h
  refine ⟨(congrArg State.due hrest :), ?_, hqueue⟩
  conv => lhs; rw [hrest]

/-- The state that a beacon expiry leaves. -/
theorem State.beaconExpiry_spec (h : Due.beaconCountdownExpiry ∈ s.due) :
    ∃ due, ({ s with due := due } : State).resumed s.takeBeaconExpiry ∧ Due.beaconTransmit ∈ due ∧
      ∀ d, d ≠ .beaconTransmit → (d ∈ due ↔ d ∈ s.due.erase .beaconCountdownExpiry) := by
  rw [State.takeBeaconExpiry, State.onDue_of_mem _ h]
  split
  · next hdue =>
    exact ⟨_, State.resumed_resume _, List.contains_iff_mem.mp hdue, fun d _ => Iff.rfl⟩
  · refine ⟨_, State.resumed_resume _, List.mem_append_right _ (List.mem_singleton_self _), fun d hd => ?_⟩
    rw [List.mem_append, List.mem_singleton]
    exact or_iff_left hd

/-- The content of a beacon: the announced records in ascending order (R174). -/
theorem State.announced_eq_mem (s : State) (p : Port) :
    s.announced p =
      (decide (s.phase p ∈ [Phase.census, .tracked, .bridging, .bridged, .armed, .rolling, .rolled, .releasing, .unrolling,
        .unbridging]) || (s.phase p = .migrated && (s.trunk p).lingering)) := by
  rw [State.announced]
  cases s.phase p <;> rfl

/-- The bytes of the beacon that begins: its sites, and the announced records in ascending order (R161, R174). -/
theorem State.beaconBytes_eq (s : State) :
    s.beaconBytes =
      frameBytes 0x21 (beaconPayload s.straps.site
        (s.link.learnedPeer.getD 0)
        ((allPorts.filter (fun p => s.phase p ∈ [Phase.census, .tracked, .bridging, .bridged, .armed, .rolling, .rolled,
            .releasing, .unrolling, .unbridging] || (s.phase p = .migrated && (s.trunk p).lingering))).filterMap
          (fun p => (s.trunk p).binding.map (fun b =>
            { circuit := b.circuit, phase := (s.trunk p).phase, commit := (s.trunk p).commit,
              alarm := b.fibreAlarm, digest := BitVec.ofNat 16 b.digest })))) := by
  rw [State.beaconBytes, State.beaconContent, State.announcedPorts, ← funext s.announced_eq_mem]
  rfl

theorem State.endsLingering_iff (s : State) (p : Port) :
    s.endsLingering p = true ↔
      s.phase p = .migrated ∧ (s.trunk p).lingering = true ∧ ∃ v, s.view p = some v ∧ v.peerReleased = true := by
  rw [State.endsLingering, Bool.and_eq_true, Bool.and_eq_true, and_assoc, decide_eq_true_iff]
  cases s.view p <;> simp

/-- Settles O48. -/
theorem beaconsBeginAtBoundaries : Obligations.BeaconsBeginAtBoundaries := by
  intro s
  refine ⟨fun h => ?_, fun h => ⟨_, rfl, ?_⟩, fun h => ⟨_, rfl, ?_⟩⟩
  · obtain ⟨due, hresumed, htransmit, hothers⟩ := State.beaconExpiry_spec h
    obtain ⟨hdue, hrest⟩ := State.resumed_due hresumed
    exact ⟨_, rfl, hdue ▸ htransmit, hrest, fun d hd => hdue ▸ hothers d hd⟩
  · intro u begins announced ends
    have hstep : (if u.beaconBegins then u.beginBeacon else u).resumed s.takeBeaconTransmit := by
      rw [State.takeBeaconTransmit, State.onDue_of_mem _ h]
      exact State.resumed_resume _
    have hbegins : u.beaconBegins = true ↔ begins := by
      have hdisabled : s.linkDisabled = false ↔ s.straps.site ≠ 0 ∧ s.straps.site ≠ 255 := by
        simp [State.linkDisabled]
      have hdue : s.beaconDue = true ↔ s.timing.beaconCountdown = 0 ∨ s.link.changeDue = true := by
        simp [State.beaconDue]
      change s.beaconBegins = true ↔ _
      rw [State.beaconBegins, Bool.and_eq_true, Bool.and_eq_true, hdue, Bool.not_eq_true', hdisabled, and_assoc,
        Option.isNone_iff_eq_none]
    refine ⟨fun hwaits => ?_, fun hnow => ?_⟩
    · rwa [if_neg fun hb => hwaits (hbegins.mp hb)] at hstep
    · rw [if_pos (hbegins.mpr hnow)] at hstep
      rw [State.beginBeacon_eq] at hstep
      obtain ⟨htrunk, hview, trunks, views, hframe⟩ := State.foldl_endLingering allPorts u.beaconTaken
      have hends (p : Port) : p ∈ allPorts ∧ u.endsLingering p = true ↔ ends p :=
        (and_iff_right (List.mem_finRange p)).trans (s.endsLingering_iff p)
      generalize allPorts.foldl State.endLingering _ = v at hstep htrunk hview hframe
      generalize s.takeBeaconTransmit = t at hstep
      obtain ⟨hrest, hqueue⟩ := hstep
      have htrunk' (p : Port) : t.trunk p = v.trunk p := (congrArg (State.trunk · p) hrest :)
      have hview' (p : Port) : t.view p = v.view p := (congrArg (State.view · p) hrest :)
      refine ⟨?_, ?_, ?_, fun p => ⟨fun hp => ⟨?_, ?_⟩, fun hp => ⟨?_, ?_⟩⟩, ?_, ?_⟩
      · rw [hrest, hframe]
        rfl
      · rw [hrest, hframe]
        rfl
      · rw [s.beaconBytes_eq]
        cases s.link.learnedPeer <;> rfl
      · exact (htrunk' p).trans ((htrunk p).trans (if_pos ((hends p).mpr hp)))
      · exact (hview' p).trans ((hview p).trans (if_pos ((hends p).mpr hp)))
      · exact (htrunk' p).trans ((htrunk p).trans (if_neg fun h => hp ((hends p).mp h)))
      · exact (hview' p).trans ((hview p).trans (if_neg fun h => hp ((hends p).mp h)))
      · rw [hrest, hframe]
        rfl
      · rw [hqueue, hframe]
        rfl
  · rw [State.settle_of_nothing_due h]
    obtain ⟨hrest, hqueue⟩ := s.resumed_resume
    refine ⟨?_, hqueue⟩
    conv => lhs; rw [hrest]

end Sys2Proof.Machine
end

section
/-! SUPPORT. Frames, beacons and alarm payloads read back (O49). -/

namespace Sys2Proof.Machine

/-! ## A frame taken byte by byte (R161, R162) -/

/-- The bytes of a frame before its check byte (R161). -/
def frameFront (kind : Byte) (payload : List Byte) : List Byte :=
  openingByte :: kind :: BitVec.ofNat 8 payload.length :: payload

/-- The check byte of a frame (R161). -/
def frameCheck (kind : Byte) (payload : List Byte) : Byte :=
  0 - byteSum (kind :: BitVec.ofNat 8 payload.length :: payload)

theorem frameBytes_eq (kind : Byte) (payload : List Byte) :
    frameBytes kind payload = frameFront kind payload ++ [frameCheck kind payload] := rfl

/-- The receiver's state after this many bytes of a frame whose payload has `len` bytes (R162). -/
def ReceiverState.afterBytes (len : Nat) : Nat → ReceiverState
  | 0 => .hunt
  | 1 => .kind
  | 2 => .length
  | n + 3 => if n = len then .check else .payload

/-- The link that was in HUNT after this many bytes of a frame. -/
def PeerLink.afterBytes (l : PeerLink) (kind : Byte) (payload : List Byte) : Nat → PeerLink
  | 0 => l
  | n + 1 =>
    { l with held := (frameFront kind payload).take (n + 1), gap := 0,
             receiver := .afterBytes payload.length (n + 1) }

section
variable {l : PeerLink} {kind : Byte} {payload : List Byte} (disabled : Bool)

theorem PeerLink.afterBytes_receiver (h : l.receiver = .hunt) (n : Nat) :
    (l.afterBytes kind payload n).receiver = .afterBytes payload.length n := by
  cases n with
  | zero => exact h
  | succ n => rfl

/-- The payload byte number `n` is held behind the bytes before it. -/
theorem frameFront_take_succ {n : Nat} (h : n < payload.length + 3) :
    (frameFront kind payload).take n ++ [(frameFront kind payload).getD n 0] = (frameFront kind payload).take (n + 1) := by
  have hlt : n < (frameFront kind payload).length := h
  rw [List.getD_eq_getElem?_getD, List.getElem?_eq_getElem hlt, Option.getD_some, List.take_append_getElem hlt]

/-- Each byte before the check byte is held, and makes nothing due. -/
theorem PeerLink.takeByte_afterBytes (h : l.receiver = .hunt) (hlength : payload.length ≤ 60) {n : Nat}
    (hn : n < payload.length + 3) :
    (l.afterBytes kind payload n).takeByte disabled ((frameFront kind payload).getD n 0) =
      (l.afterBytes kind payload (n + 1), none) := by
  have hreceiver := l.afterBytes_receiver (kind := kind) (payload := payload) h n
  match n with
  | 0 => exact (PeerLink.takeByte_hunt disabled _ hreceiver).trans (if_pos rfl)
  | 1 => exact PeerLink.takeByte_kind disabled _ hreceiver
  | 2 =>
    have htoNat : (BitVec.ofNat 8 payload.length).toNat = payload.length := by
      rw [BitVec.toNat_ofNat]; omega
    have hbyte := PeerLink.takeByte_length disabled (BitVec.ofNat 8 payload.length) hreceiver
    by_cases hempty : payload.length = 0
    · have hnext : ReceiverState.afterBytes payload.length 3 = .check := if_pos (Eq.symm hempty)
      rw [if_pos (by rw [hempty]; rfl), ← hnext] at hbyte
      exact hbyte
    · have hnext : ReceiverState.afterBytes payload.length 3 = .payload := if_neg (Ne.symm hempty)
      rw [if_neg fun hzero => hempty (by rw [← htoNat, hzero]; rfl), if_pos (by omega), ← hnext] at hbyte
      exact hbyte
  | n + 3 =>
    have hheld : (l.afterBytes kind payload (n + 3)).held = (frameFront kind payload).take (n + 3) := rfl
    have hpayload : ReceiverState.afterBytes payload.length (n + 3) = .payload := if_neg (by omega)
    have htoNat : (((frameFront kind payload).take (n + 4)).getD 2 0).toNat = payload.length := by
      change (BitVec.ofNat 8 payload.length).toNat = _
      rw [BitVec.toNat_ofNat]; omega
    have htaken : ((frameFront kind payload).take (n + 4)).length = n + 4 :=
      List.length_take_of_le (by simp [frameFront]; omega)
    rw [PeerLink.takeByte_payload disabled _ (hreceiver.trans hpayload), hheld, frameFront_take_succ hn, htoNat, htaken,
      PeerLink.hold, hheld, frameFront_take_succ hn]
    simp only [PeerLink.afterBytes, ReceiverState.afterBytes, show (n + 4 = 3 + payload.length) = (n + 1 = payload.length) by
      rw [eq_iff_iff]; omega]

/-- The link after the first `n` bytes of a frame. -/
theorem PeerLink.foldl_takeByte_frameFront (h : l.receiver = .hunt) (hlength : payload.length ≤ 60) {n : Nat}
    (hn : n ≤ payload.length + 3) :
    ((frameFront kind payload).take n).foldl (fun m b => (m.takeByte disabled b).1) l = l.afterBytes kind payload n := by
  induction n with
  | zero => rfl
  | succ n ih =>
    rw [← frameFront_take_succ hn, List.foldl_append, ih (by omega), List.foldl_cons, List.foldl_nil,
      PeerLink.takeByte_afterBytes disabled h hlength hn]

theorem byteSum_concat (bytes : List Byte) (b : Byte) : byteSum (bytes ++ [b]) = byteSum bytes + b := by
  rw [byteSum, List.foldl_append]; rfl

/-- The check byte of a frame makes due the dispatch of its kind and payload (R161, R165). -/
theorem PeerLink.takeByte_frameCheck (h : l.receiver = .hunt) :
    (l.afterBytes kind payload (payload.length + 3)).takeByte disabled (frameCheck kind payload) =
      ({ l with held := [], gap := 0 }, some (frameEvent disabled kind payload)) := by
  have hreceiver : (l.afterBytes kind payload (payload.length + 3)).receiver = .check := if_pos rfl
  have hheld : (l.afterBytes kind payload (payload.length + 3)).held = frameFront kind payload :=
    List.take_of_length_le (Nat.le_refl _)
  have hsum : byteSum ((frameFront kind payload ++ [frameCheck kind payload]).drop 1) = 0 := by
    change byteSum ((kind :: BitVec.ofNat 8 payload.length :: payload) ++ [frameCheck kind payload]) = 0
    rw [byteSum_concat, frameCheck]
    generalize byteSum _ = sum
    bv_omega
  have hevent : heldFrame disabled (frameFront kind payload ++ [frameCheck kind payload]) =
      frameEvent disabled kind payload := by
    change frameEvent disabled kind (payload ++ [frameCheck kind payload]).dropLast = _
    rw [List.dropLast_concat]
  rw [PeerLink.takeByte_check disabled _ hreceiver, hheld, if_pos hsum, hevent, PeerLink.afterBytes, ← h]

end

/-! ## The payload of a beacon (R167, R174) -/

theorem wordOf_bytes (w : Word) : wordOf (highByte w) (lowByte w) = w := by
  rw [wordOf, highByte, lowByte]
  refine BitVec.eq_of_getLsbD_eq fun i hi => ?_
  rw [BitVec.getLsbD_append, BitVec.getLsbD_extractLsb', BitVec.getLsbD_extractLsb']
  split
  · next h => simp [h]
  · next h => simp [show i - 8 < 8 by omega, show 8 + (i - 8) = i by omega]

/-- The phase of each phase code that a beacon carries (R167). -/
theorem beaconPhase_code {phase : Phase} (hfree : phase ≠ .free) (hbound : phase ≠ .bound) :
    beaconPhase (0#4 ++ phase.code) = some phase := by
  cases phase with
  | free => exact absurd rfl hfree
  | bound => exact absurd rfl hbound
  | _ => rfl

theorem beaconRecords_cons {r : BeaconRecord} (hfree : r.phase ≠ .free) (hbound : r.phase ≠ .bound) (rest : List Byte) :
    beaconRecords (beaconRecordBytes r ++ rest) = some r :: beaconRecords rest := by
  have hflags : (0#6 ++ BitVec.ofBool r.alarm ++ BitVec.ofBool r.commit).getLsbD 0 = r.commit ∧
      (0#6 ++ BitVec.ofBool r.alarm ++ BitVec.ofBool r.commit).getLsbD 1 = r.alarm := by
    cases r.alarm <;> cases r.commit <;> decide
  simp only [beaconRecordBytes, List.cons_append, List.nil_append, beaconRecords, beaconPhase_code hfree hbound,
    hflags, wordOf_bytes, Option.map_some]

theorem beaconRecords_flatMap {records : List BeaconRecord} (h : ∀ r ∈ records, r.phase ≠ .free ∧ r.phase ≠ .bound) :
    beaconRecords (records.flatMap beaconRecordBytes) = records.map some := by
  induction records with
  | nil => rfl
  | cons r records ih =>
    obtain ⟨hfree, hbound⟩ := h r List.mem_cons_self
    rw [List.flatMap_cons, beaconRecords_cons hfree hbound, ih fun r hr => h r (List.mem_cons_of_mem _ hr), List.map_cons]

theorem length_flatMap_beaconRecordBytes (records : List BeaconRecord) :
    (records.flatMap beaconRecordBytes).length = 6 * records.length := by
  induction records with
  | nil => rfl
  | cons r records ih =>
    rw [List.flatMap_cons, List.length_append, ih, List.length_cons, show (beaconRecordBytes r).length = 6 from rfl]
    omega

theorem parseBeacon_beaconPayload (fromSite toSite : Byte) {records : List BeaconRecord} (hlength : records.length ≤ 8)
    (h : ∀ r ∈ records, r.phase ≠ .free ∧ r.phase ≠ .bound) :
    parseBeacon (beaconPayload fromSite toSite records) = some (fromSite, toSite, records.map some) := by
  have hcount : (BitVec.ofNat 8 records.length).toNat = records.length := by
    rw [BitVec.toNat_ofNat]; omega
  rw [beaconPayload, parseBeacon, hcount, length_flatMap_beaconRecordBytes, beaconRecords_flatMap h, if_pos]
  simpa using hlength

/-! ## The payload of an alarm frame (R176) -/

/-- Bit `b` of the low byte of bytes joined. -/
theorem getLsbD_append_zero {w b : Nat} (hb : b < 8) (high : BitVec w) (low : Byte) :
    (high ++ low).getLsbD b = low.getLsbD b := by
  rw [BitVec.getLsbD_append, if_pos hb]

/-- Bit `b` of a byte above the low byte of bytes joined. -/
theorem getLsbD_append_succ {w : Nat} (high : BitVec w) (low : Byte) (i b : Nat) :
    (high ++ low).getLsbD (8 * (i + 1) + b) = high.getLsbD (8 * i + b) := by
  rw [BitVec.getLsbD_append, if_neg (by omega), show 8 * (i + 1) + b - 8 = 8 * i + b by omega]

/-- Bit `b` of byte `i` of an ALARM payload is fibre port `64 + 8 i + b` of its set (R176). -/
theorem getLsbD_parseAlarm {bytes : List Byte} {i b : Nat} (hbytes : bytes.length = 8) (hi : i < 8) (hb : b < 8) :
    ∃ set, parseAlarm bytes = some set ∧ set.getLsbD (8 * i + b) = (bytes.getD i 0).getLsbD b := by
  match bytes, hbytes with
  | [b0, b1, b2, b3, b4, b5, b6, b7], _ =>
    refine ⟨_, rfl, ?_⟩
    obtain rfl | rfl | rfl | rfl | rfl | rfl | rfl | rfl :
        i = 0 ∨ i = 1 ∨ i = 2 ∨ i = 3 ∨ i = 4 ∨ i = 5 ∨ i = 6 ∨ i = 7 := by omega
    all_goals simp only [getLsbD_append_succ, getLsbD_append_zero hb, Nat.mul_zero, Nat.zero_add, List.getD_cons_succ,
      List.getD_cons_zero]

/-- Settles O49. -/
theorem framesReadBackAsTheyWereMade : Obligations.FramesReadBackAsTheyWereMade := by
  refine ⟨fun l disabled kind payload hhunt hlength => ?_, fun fromSite toSite records hlength h =>
    parseBeacon_beaconPayload fromSite toSite hlength h, fun bytes i b hbytes hi hb => ?_⟩
  · refine ⟨frameFront kind payload, frameCheck kind payload, rfl, ?_⟩
    intro before
    have hbefore : before = l.afterBytes kind payload (payload.length + 3) := by
      rw [← PeerLink.foldl_takeByte_frameFront disabled hhunt hlength (Nat.le_refl _)]
      exact congrArg (List.foldl _ l) (List.take_length (l := frameFront kind payload)).symm
    refine ⟨fun n hn => ?_, ?_⟩
    · rw [PeerLink.foldl_takeByte_frameFront disabled hhunt hlength (Nat.le_of_lt hn),
        PeerLink.foldl_takeByte_frameFront disabled hhunt hlength hn,
        PeerLink.takeByte_afterBytes disabled hhunt hlength hn]
    · rw [hbefore, PeerLink.takeByte_frameCheck disabled hhunt]
  · exact getLsbD_parseAlarm hbytes hi hb

end Sys2Proof.Machine
end

section
/-! SUPPORT. Faults raised one after another between two store units, and the beacon of the peer (O52). -/

namespace Sys2Proof.Machine

variable {s t u v w : State} {p : Port} {ps : List Port} {os : List Occurrence}

/-! ## Faults raised in order between two store units (R180, R185) -/

theorem State.reachedBy_concat (u : State) (os : List Occurrence) (o : Occurrence) :
    u.reachedBy (os ++ [o]) = (u.reachedByOne o).foldl addPort (u.reachedBy os) := by
  rw [State.reachedBy_eq, State.reachedBy_eq, List.flatMap_append, List.foldl_append, List.flatMap_singleton]

theorem State.raised_refl (u : State) : u.raised u [] := u.fallsBack_refl

/-- A fault raised with the store free, after those before it. -/
theorem State.raised.raise (h : u.raised v os) (hfree : v.arbiter.inProgress = none) (src : FaultSource)
    (o : Option Port) : u.raised (v.raise src o) (os ++ [(src, o)]) := by
  rw [State.raised, State.reachedBy_concat, State.raise_free hfree, List.flatMap_append, List.flatMap_singleton]
  exact State.fallsBack.raisedOne h (src, o)

/-- A fault raised with the store free leaves it free. -/
theorem State.raise_inProgress (h : s.arbiter.inProgress = none) (src : FaultSource) (o : Option Port) :
    (s.raise src o).arbiter.inProgress = none := by
  rw [State.raise_free h, State.dispatchFor]
  split
  · rw [State.dispatchFallback_arbiter, State.recordOccurrence_arbiter, h]
  · rw [State.recordOccurrence_arbiter, h]

/-- The state with these peer view entries. -/
def State.withViews (s : State) (views : Vector (Option PeerView) 64) : State :=
  { s with link := { s.link with views := views } }

/-- Fallback leaves the peer views. -/
theorem State.fallsBack.withViews (h : u.fallsBack v ps os) (views : Vector (Option PeerView) 64) :
    (u.withViews views).fallsBack (v.withViews views) ps os := by
  obtain ⟨htrunk, harmed, hqueue, hlink, hfaults, hframe⟩ := h
  refine ⟨htrunk, harmed, ?_, ?_, ?_, ?_⟩
  · exact hqueue
  · change { v.link with views := views } = _
    rw [hlink]
    rfl
  · refine hfaults.trans ?_
    apply State.collected_congr <;> rfl
  · conv => lhs; rw [State.withViews, hframe]
    rfl

theorem State.fallsBack.views (h : u.fallsBack v ps os) : v.link.views = u.link.views := by
  obtain ⟨-, -, -, hlink, -⟩ := h
  rw [hlink]

/-! ## The peer views and the faults of a beacon -/

/-- `v` is `u` after faults raised in order with the store free, but for the peer views, which are `v`'s own. -/
def State.raisedBesideViews (u v : State) (os : List Occurrence) : Prop :=
  (u.withViews v.link.views).raised v os ∧ v.arbiter.inProgress = none

theorem State.raisedBesideViews.raise (h : u.raisedBesideViews v os) (src : FaultSource) (o : Option Port) :
    u.raisedBesideViews (v.raise src o) (os ++ [(src, o)]) ∧ (v.raise src o).link.views = v.link.views := by
  obtain ⟨hraised, hfree⟩ := h
  have hraise := hraised.raise hfree src o
  have hviews : (v.raise src o).link.views = v.link.views := (State.fallsBack.views hraise :)
  refine ⟨⟨?_, State.raise_inProgress hfree src o⟩, hviews⟩
  rwa [hviews]

/-- A fault raised under a condition. -/
def State.raiseIf (s : State) (c : Bool) (src : FaultSource) (o : Option Port) : State :=
  if c then s.raise src o else s

/-- The occurrence of a fault that is raised under a condition. -/
def occurrenceIf (c : Bool) (o : Occurrence) : List Occurrence := if c = true then [o] else []

theorem State.raisedBesideViews.raiseIf (h : u.raisedBesideViews v os) (c : Bool) (src : FaultSource)
    (o : Option Port) :
    u.raisedBesideViews (v.raiseIf c src o) (os ++ occurrenceIf c (src, o)) ∧
      (v.raiseIf c src o).link.views = v.link.views := by
  cases c with
  | true => exact h.raise src o
  | false => exact ⟨by simpa [occurrenceIf, State.raiseIf] using h, rfl⟩

theorem State.raisedBesideViews.setView (h : u.raisedBesideViews v os) (p : Port) (x : Option PeerView) :
    u.raisedBesideViews (v.setView p x) os := by
  obtain ⟨hraised, hfree⟩ := h
  exact ⟨State.fallsBack.withViews hraised (v.setView p x).link.views, hfree⟩

/-- Fallback leaves the binding of every record. -/
theorem TrunkRecord.fellBack_binding (r : TrunkRecord) : r.fellBack.binding = r.binding := by
  unfold TrunkRecord.fellBack
  split <;> rfl

theorem State.raisedBesideViews.binding (h : u.raisedBesideViews v os) (p : Port) :
    (v.trunk p).binding = (u.trunk p).binding := by
  obtain ⟨⟨htrunk, -⟩, -⟩ := h
  rw [htrunk]
  split
  · exact TrunkRecord.fellBack_binding _
  · rfl

theorem State.raisedBesideViews.timing (h : u.raisedBesideViews v os) : v.timing = u.timing := by
  obtain ⟨⟨-, -, -, -, -, hframe⟩, -⟩ := h
  exact (congrArg State.timing hframe :)

/-! ## The update of the views (R170, R171) -/

/-- The edges of record `p` at a beacon that the part takes: a new digest difference and a withdrawal (R171). -/
def State.beaconEdges (u : State) (records : List BeaconRecord) (p : Port) : List Occurrence :=
  match u.view p with
  | some v =>
    let after := v.updated records u.timing.multiframe
    occurrenceIf ((u.trunk p).binding.any (mismatchEdge v after)) (.peerMismatch, some p) ++
      occurrenceIf (withdrawEdge v after (u.phase p)) (.peerWithdraw, some p)
  | none => []

theorem State.updateView_of_none {records : List BeaconRecord} (h : v.view p = none) : u.updateView records v p = v := by
  simp only [State.updateView, h]

theorem State.updateView_of_some {records : List BeaconRecord} {x : PeerView} (h : v.view p = some x) :
    u.updateView records v p =
      ((v.setView p (some (x.updated records v.timing.multiframe))).raiseIf
        ((v.trunk p).binding.any (mismatchEdge x (x.updated records v.timing.multiframe)))
        .peerMismatch (some p)).raiseIf
        (withdrawEdge x (x.updated records v.timing.multiframe) (u.phase p)) .peerWithdraw (some p) := by
  simp only [State.updateView, h, State.raiseIf]
  cases (v.trunk p).binding <;> rfl

/-- The entry of record `p` updated, and its edges raised. -/
theorem State.raisedBesideViews.updateView {records : List BeaconRecord} (h : u.raisedBesideViews v os)
    (hview : v.view p = u.view p) :
    u.raisedBesideViews (u.updateView records v p) (os ++ u.beaconEdges records p) ∧
      ∀ q, (u.updateView records v p).view q =
        if q = p then (u.view p).map (·.updated records u.timing.multiframe) else v.view q := by
  cases hp : u.view p with
  | none =>
    have hedges : u.beaconEdges records p = [] := by simp only [State.beaconEdges, hp]
    rw [State.updateView_of_none (hview.trans hp), hedges, List.append_nil]
    refine ⟨h, fun q => ?_⟩
    by_cases hq : q = p
    · rw [if_pos hq, hq, hview, hp]; rfl
    · rw [if_neg hq]
  | some x =>
    rw [State.updateView_of_some (hview.trans hp), h.timing, h.binding]
    simp only [State.beaconEdges, hp, Option.map_some]
    generalize x.updated records u.timing.multiframe = after
    obtain ⟨hone, hsame⟩ := (h.setView p (some after)).raiseIf ((u.trunk p).binding.any (mismatchEdge x after))
      .peerMismatch (some p)
    obtain ⟨htwo, hsame'⟩ := hone.raiseIf (withdrawEdge x after (u.phase p)) .peerWithdraw (some p)
    rw [← List.append_assoc]
    refine ⟨htwo, fun q => ?_⟩
    have hviews := congrArg (·[q]) (hsame'.trans hsame)
    exact hviews.trans (v.view_setView p q (some after))

/-- Every entry updated in ascending order, and its edges raised. -/
theorem State.raisedBesideViews.updateViews {records : List BeaconRecord} {l : List Port} (h : u.raisedBesideViews v os)
    (hnodup : l.Nodup) (hview : ∀ p ∈ l, v.view p = u.view p) :
    u.raisedBesideViews (l.foldl (u.updateView records) v) (os ++ l.flatMap (u.beaconEdges records)) ∧
      ∀ q, (l.foldl (u.updateView records) v).view q =
        if q ∈ l then (u.view q).map (·.updated records u.timing.multiframe) else v.view q := by
  induction l generalizing v os with
  | nil => exact ⟨by simpa using h, fun q => by simp⟩
  | cons p l ih =>
    obtain ⟨hp, hnodup⟩ := List.nodup_cons.mp hnodup
    obtain ⟨hone, hviews⟩ := h.updateView (records := records) (hview p List.mem_cons_self)
    obtain ⟨hall, hviews'⟩ := ih hone hnodup fun q hq => by
      rw [hviews q, if_neg (by rintro rfl; exact hp hq), hview q (List.mem_cons_of_mem _ hq)]
    rw [List.foldl_cons, List.flatMap_cons, ← List.append_assoc]
    refine ⟨hall, fun q => ?_⟩
    rw [hviews' q, hviews q]
    by_cases hq : q = p
    · subst hq; simp [hp]
    · simp [hq]

/-- The unusable records of a beacon, each counted (R167). -/
theorem State.raisedBesideViews.unusable (h : u.raisedBesideViews v os) (records : List (Option BeaconRecord)) :
    u.raisedBesideViews (records.foldl (fun t r => if r.isNone then t.raise .linkFrame none else t) v)
        (os ++ (records.filter Option.isNone).map (fun _ => (.linkFrame, none))) ∧
      (records.foldl (fun t r => if r.isNone then t.raise .linkFrame none else t) v).link.views = v.link.views := by
  induction records generalizing v os with
  | nil => exact ⟨by simpa using h, rfl⟩
  | cons r records ih =>
    obtain ⟨hone, hsame⟩ := h.raiseIf r.isNone .linkFrame none
    obtain ⟨hall, hsame'⟩ := ih hone
    refine ⟨?_, hsame'.trans hsame⟩
    rw [List.append_assoc] at hall
    cases r with
    | none => exact hall
    | some r => exact hall

/-- The state with the peer learned and the silence countdown reloaded (R168, R170). -/
def State.learned (u : State) (fromSite : Byte) : State :=
  { u with
    link := { u.link with learnedPeer := some fromSite },
    timing := { u.timing with silenceCountdown := u.timing.silenceLimit * u.timing.beaconPeriod } }

/-- A beacon that the part takes, with the store free (R167, R170, R171). -/
theorem State.acceptBeacon_spec (hfree : u.arbiter.inProgress = none) (fromSite : Byte)
    (records : List (Option BeaconRecord)) :
    (u.learned fromSite).raisedBesideViews (u.acceptBeacon fromSite records)
        ((records.filter Option.isNone).map (fun _ => (.linkFrame, none)) ++
          allPorts.flatMap (u.beaconEdges (records.filterMap id))) ∧
      ∀ p, (u.acceptBeacon fromSite records).view p =
        (u.view p).map (·.updated (records.filterMap id) u.timing.multiframe) := by
  have hlearned : (u.learned fromSite).raisedBesideViews (u.learned fromSite) [] :=
    ⟨(u.learned fromSite).raised_refl, hfree⟩
  obtain ⟨hunusable, hsame⟩ := hlearned.unusable records
  obtain ⟨hall, hviews⟩ := hunusable.updateViews (records := records.filterMap id) allPorts_nodup
    fun p _ => congrArg (·[p]) hsame
  exact ⟨hall, fun p => (hviews p).trans (if_pos (List.mem_finRange p))⟩

/-! ## PEER_SILENT and BEACON_FRAME (O52) -/

theorem State.acceptsBeacon_iff (u : State) (fromSite toSite : Byte) :
    u.acceptsBeacon fromSite toSite = true ↔
      1 ≤ fromSite.toNat ∧ fromSite.toNat ≤ 254 ∧ fromSite ≠ u.straps.site ∧ (toSite = u.straps.site ∨ toSite = 0) ∧
        (u.link.learnedPeer = none ∨ u.link.learnedPeer = some fromSite) := by
  rw [State.acceptsBeacon]
  cases u.link.learnedPeer <;> simp [and_assoc]

/-- A whole BEACON frame is taken at the end of the unit in progress, and the re-taking goes on. -/
theorem State.takeBeaconFrame_of_due {payload : List Byte} {rest : List Due} (h : s.due = .beaconFrame payload :: rest) :
    ∃ v, ((s.takeDue (.beaconFrame payload)).atBoundary.beaconReceived payload).resumed v ∧
      s.takeBeaconFrame = v.goOnRetaking.resume := by
  have hdue : s.dueBeacon = some payload := by rw [State.dueBeacon, h]; rfl
  refine ⟨_, State.resumed_moveCursorOf _ (s.takeDue (.beaconFrame payload)).arbiter.inProgress, ?_⟩
  simp only [State.takeBeaconFrame, hdue]
  exact State.onDue_of_mem _ (by rw [h]; exact List.mem_cons_self)

/-- Settles O52. -/
theorem beaconsAndSilenceChangeThePeerViews : Obligations.BeaconsAndSilenceChangeThePeerViews := by
  refine ⟨fun s h => ⟨_, rfl, ?_⟩, fun s payload rest h => ?_⟩
  · refine State.raisesAt_raise _ _ _ ?_
    rw [State.takePeerSilent, State.onDue_of_mem _ h]
    exact State.resumed_resume _
  · intro u
    have hfree : u.arbiter.inProgress = none := State.atBoundary_free _
    obtain ⟨v, hv, htake⟩ := State.takeBeaconFrame_of_due h
    refine ⟨v, _, congrArg Host.Outcome.next htake, v.goesOn_goOnRetaking, ?_⟩
    change (u.beaconReceived payload).resumed v at hv
    clear_value u
    cases hparsed : parseBeacon payload with
    | none =>
      simp only [State.beaconReceived, hparsed] at hv
      exact (State.raised_raise hfree .linkFrame none).of_resumed hv
    | some parsed =>
      obtain ⟨fromSite, toSite, records⟩ := parsed
      simp only [State.beaconReceived, hparsed] at hv
      dsimp -zeta only
      by_cases haccepts : u.acceptsBeacon fromSite toSite = true
      · rw [if_pos haccepts] at hv
        rw [if_pos ((u.acceptsBeacon_iff fromSite toSite).mp haccepts)]
        intro updated withdraws unequal differs edges
        obtain ⟨⟨hraised, -⟩, hviews⟩ := State.acceptBeacon_spec hfree fromSite records
        generalize u.acceptBeacon fromSite records = w at hv hraised hviews
        have hupdated (x : PeerView) : x.updated (records.filterMap id) u.timing.multiframe = updated x := by
          cases hfind : (records.filterMap id).find? (fun r => r.circuit = x.circuit) with
          | none => simp only [PeerView.updated, updated, hfind]
          | some r => simp only [PeerView.updated, updated, hfind]
        have hunequal (x : PeerView) (b : Binding) : x.mismatches b = unequal x b := by
          rw [PeerView.mismatches]
          cases hphase : x.phase <;> simp [unequal, hphase]
        have hdiffers (p : Port) (x : PeerView) :
            (u.trunk p).binding.any (mismatchEdge x (updated x)) = differs p x := by
          simp only [differs]
          cases (u.trunk p).binding with
          | none => rfl
          | some b => simp only [Option.any_some, mismatchEdge, hunequal]
        have hedges (p : Port) : u.beaconEdges (records.filterMap id) p = edges p := by
          simp only [State.beaconEdges, hupdated, hdiffers, edges]
          cases u.view p <;> rfl
        have hsame : v.link.views = w.link.views := (congrArg (·.link.views) hv.1 :)
        refine ⟨fun p => ?_, ?_⟩
        · rw [State.view, hsame]
          exact (hviews p).trans (congrArg (Option.map · (u.view p)) (funext hupdated))
        · rw [hsame, ← funext hedges]
          exact State.raised.of_resumed hraised hv
      · rw [if_neg haccepts] at hv
        rw [if_neg fun h => haccepts ((u.acceptsBeacon_iff fromSite toSite).mpr h)]
        exact (State.raised_raise hfree .peerIdentity none).of_resumed hv

end Sys2Proof.Machine
end

section
/-! SUPPORT. The alarm set and the fibre-alarm flags (O53). -/

namespace Sys2Proof.Machine

variable {s t u v w : State} {p q : Port} {ps : List Port} {os : List Occurrence} {r : TrunkRecord}

/-! ## A record replaced beside the records that fall back -/

/-- A record that fallback has not reached can be replaced before fallback or after it. -/
theorem State.fallsBack.setTrunk (h : u.fallsBack v ps os) (hp : p ∉ ps) (r : TrunkRecord) :
    (u.setTrunk p r).fallsBack (v.setTrunk p r) ps os := by
  obtain ⟨htrunk, harmed, hqueue, hlink, hfaults, hframe⟩ := h
  have hother (q : Port) (hq : q ∈ ps) : (u.setTrunk p r).trunk q = u.trunk q := by
    rw [State.trunk_setTrunk, if_neg (by rintro rfl; exact hp hq)]
  have hphase (q : Port) (hq : q ∈ ps) : (u.setTrunk p r).phase q = u.phase q := congrArg TrunkRecord.phase (hother q hq)
  refine ⟨fun q => ?_, ?_, ?_, ?_, ?_, ?_⟩
  · rw [State.trunk_setTrunk, State.trunk_setTrunk]
    by_cases hq : q = p
    · subst hq; simp [hp]
    · simp [hq, htrunk q]
  · exact harmed.trans (foldl_congr_of_mem (fun l q hq => by rw [hphase q hq]) _)
  · refine hqueue.trans (foldl_congr_of_mem (fun l q hq => ?_) _)
    simp only [State.queueFallen, hphase q hq, hother q hq]
  · have hroll : ps.any (u.setTrunk p r).uncommittedInRoll = ps.any u.uncommittedInRoll := by
      rw [Bool.eq_iff_iff, List.any_eq_true, List.any_eq_true]
      refine exists_congr fun q => and_congr_right fun hq => ?_
      rw [State.uncommittedInRoll_eq, hother q hq, State.uncommittedInRoll_eq]
    rw [hroll]
    exact hlink
  · refine hfaults.trans ?_
    apply State.collected_congr <;> rfl
  · conv => lhs; rw [State.setTrunk, hframe]
    rfl

/-- A change that is reported before fallback or after it (R116). -/
theorem State.fallsBack.reportChange (h : u.fallsBack v ps os) : u.reportChange.fallsBack v.reportChange ps os := by
  obtain ⟨htrunk, harmed, hqueue, hlink, hfaults, hframe⟩ := h
  refine ⟨htrunk, harmed, hqueue, ?_, ?_, ?_⟩
  · change { v.link with changePending := true } = _
    rw [hlink]
    rfl
  · refine hfaults.trans ?_
    apply State.collected_congr <;> rfl
  · conv => lhs; rw [State.reportChange, hframe]
    rfl

/-! ## The fibre-alarm flag of one record (R155) -/

/-- Whether the alarm of a record's fibre port changes (R155). -/
def TrunkRecord.alarmChanges (old new : BitVec 64) (r : TrunkRecord) : Bool :=
  r.binding.any (fun b => new.getLsbD b.fibre.val != old.getLsbD b.fibre.val)

/-- Whether the alarm of a record's fibre port enters the set (R155). -/
def TrunkRecord.alarmEnters (old new : BitVec 64) (r : TrunkRecord) : Bool :=
  r.binding.any (fun b => !old.getLsbD b.fibre.val && new.getLsbD b.fibre.val)

/-- A record whose flag follows the alarm set (R155). -/
def TrunkRecord.followed (old new : BitVec 64) (r : TrunkRecord) : TrunkRecord :=
  if r.alarmChanges old new then
    { r with binding := r.binding.map (fun b => { b with fibreAlarm := new.getLsbD b.fibre.val }) }
  else r

/-- The fault of an alarm that enters the set for record `p` (R155). -/
def TrunkRecord.alarms (old new : BitVec 64) (r : TrunkRecord) (p : Port) : List Occurrence :=
  if r.alarmEnters old new then ((alarmFault r.phase r.commit).map (fun src => (src, some p))).toList else []

/-- Record `p` follows the alarm set, and a change in an announced record is reported (R116, R155). -/
def State.followFlag (old new : BitVec 64) (s : State) (p : Port) : State :=
  if (s.trunk p).alarmChanges old new then
    if s.announced p then (s.setTrunk p ((s.trunk p).followed old new)).reportChange
    else s.setTrunk p ((s.trunk p).followed old new)
  else s

/-- Faults raised one after another. -/
def State.raiseAll (s : State) (os : List Occurrence) : State := os.foldl (fun t o => t.raise o.1 o.2) s

theorem TrunkRecord.followed_phase_commit (old new : BitVec 64) (r : TrunkRecord) :
    (r.followed old new).phase = r.phase ∧ (r.followed old new).commit = r.commit := by
  unfold TrunkRecord.followed
  split <;> exact ⟨rfl, rfl⟩

theorem TrunkRecord.committed_followed (old new : BitVec 64) (r : TrunkRecord) :
    (r.followed old new).committed = r.committed := by
  obtain ⟨hphase, hcommit⟩ := r.followed_phase_commit old new
  rw [TrunkRecord.committed, hphase, hcommit, TrunkRecord.committed]

theorem State.trunk_followFlag (old new : BitVec 64) (s : State) (p q : Port) :
    (s.followFlag old new p).trunk q = if q = p then (s.trunk p).followed old new else s.trunk q := by
  have hset : (s.setTrunk p ((s.trunk p).followed old new)).trunk q =
      if q = p then (s.trunk p).followed old new else s.trunk q :=
    s.trunk_setTrunk p q _
  unfold State.followFlag
  split
  · split
    · exact hset
    · exact hset
  · next hkept =>
    by_cases hq : q = p
    · rw [if_pos hq, hq, TrunkRecord.followed, if_neg hkept]
    · rw [if_neg hq]

theorem TrunkRecord.alarmChanges_of_bound {old new : BitVec 64} {b : Binding} (hb : r.binding = some b) :
    r.alarmChanges old new = (new.getLsbD b.fibre.val != old.getLsbD b.fibre.val) := by
  rw [TrunkRecord.alarmChanges, hb, Option.any_some]

theorem TrunkRecord.alarmEnters_of_bound {old new : BitVec 64} {b : Binding} (hb : r.binding = some b) :
    r.alarmEnters old new = (!old.getLsbD b.fibre.val && new.getLsbD b.fibre.val) := by
  rw [TrunkRecord.alarmEnters, hb, Option.any_some]

/-- The flag of a bound record set to the alarm of its fibre port, where that changes. -/
theorem State.followFlag_of_changes {old new : BitVec 64} {b : Binding} (hb : (s.trunk p).binding = some b)
    (h : new.getLsbD b.fibre.val ≠ old.getLsbD b.fibre.val) :
    s.followFlag old new p = s.setFibreAlarm p b (new.getLsbD b.fibre.val) := by
  have hchanges : (s.trunk p).alarmChanges old new = true := by
    rw [TrunkRecord.alarmChanges_of_bound hb]
    exact bne_iff_ne.mpr h
  have hfollowed : (s.trunk p).followed old new =
      { s.trunk p with binding := some { b with fibreAlarm := new.getLsbD b.fibre.val } } := by
    rw [TrunkRecord.followed, if_pos hchanges, hb, Option.map_some]
  rw [State.followFlag, if_pos hchanges, hfollowed]
  rfl

theorem State.followFlag_of_same {old new : BitVec 64} {b : Binding} (hb : (s.trunk p).binding = some b)
    (h : new.getLsbD b.fibre.val = old.getLsbD b.fibre.val) : s.followFlag old new p = s := by
  rw [State.followFlag, TrunkRecord.alarmChanges_of_bound hb, h, bne_self_eq_false]
  rfl

/-- What a change of the alarm set does to a record: its flag follows, and then its fault is raised. -/
theorem State.followAlarmFlagThenFault (old new : BitVec 64) (s : State) (p : Port) :
    s.followAlarm old new p = (s.followFlag old new p).raiseAll ((s.trunk p).alarms old new p) := by
  cases hb : (s.trunk p).binding with
  | none =>
    simp [State.followAlarm, hb, State.followFlag, TrunkRecord.alarmChanges, TrunkRecord.alarms,
      TrunkRecord.alarmEnters, State.raiseAll]
  | some b =>
    rw [TrunkRecord.alarms, TrunkRecord.alarmEnters_of_bound hb]
    cases ho : old.getLsbD b.fibre.val <;> cases hn : new.getLsbD b.fibre.val
    case false.true =>
      have hflag := State.followFlag_of_changes (s := s) (old := old) (new := new) hb (by rw [ho, hn]; simp)
      have htrunk := s.trunk_followFlag old new p p
      rw [if_pos rfl] at htrunk
      obtain ⟨hphase, hcommit⟩ := (s.trunk p).followed_phase_commit old new
      rw [← htrunk] at hphase hcommit
      have hphase' : (s.followFlag old new p).phase p = (s.trunk p).phase := hphase
      rw [hn] at hflag
      simp only [State.followAlarm, hb, ho, hn, ← hflag, hphase', hcommit]
      cases alarmFault (s.trunk p).phase (s.trunk p).commit <;> rfl
    case true.false =>
      rw [State.followFlag_of_changes hb (by rw [ho, hn]; simp), hn]
      simp only [State.followAlarm, hb, ho, hn]
      rfl
    all_goals
      rw [State.followFlag_of_same hb (hn.trans ho.symm)]
      simp only [State.followAlarm, hb, ho, hn]
      rfl

/-! ## The records in ascending order (R155) -/

theorem State.followFlag_frame (old new : BitVec 64) (s : State) (p : Port) :
    ∃ trunks, s.followFlag old new p = { s with
      trunks := trunks
      link := { s.link with changePending :=
        s.link.changePending || ((s.trunk p).alarmChanges old new && s.announced p) } } := by
  unfold State.followFlag
  cases (s.trunk p).alarmChanges old new with
  | false => exact ⟨s.trunks, by simp⟩
  | true =>
    cases s.announced p with
    | false => exact ⟨(s.setTrunk p ((s.trunk p).followed old new)).trunks, by simp [State.setTrunk]⟩
    | true => exact ⟨(s.setTrunk p ((s.trunk p).followed old new)).trunks, by simp [State.setTrunk, State.reportChange]⟩

/-- The flags of a list of records follow the alarm set. -/
theorem State.foldl_followFlag (old new : BitVec 64) {l : List Port} (hnodup : l.Nodup) (s : State) :
    (∀ q, (l.foldl (State.followFlag old new) s).trunk q =
      if q ∈ l then (s.trunk q).followed old new else s.trunk q) ∧
    ∃ trunks, l.foldl (State.followFlag old new) s = { s with
      trunks := trunks
      link := { s.link with changePending :=
        s.link.changePending || l.any (fun p => (s.trunk p).alarmChanges old new && s.announced p) } } := by
  induction l generalizing s with
  | nil => exact ⟨fun q => by simp, s.trunks, by simp⟩
  | cons p l ih =>
    obtain ⟨hp, hnodup⟩ := List.nodup_cons.mp hnodup
    obtain ⟨htrunk, trunks, hframe⟩ := ih hnodup (s.followFlag old new p)
    obtain ⟨trunks', hone⟩ := s.followFlag_frame old new p
    have hother (q : Port) (hq : q ≠ p) : (s.followFlag old new p).trunk q = s.trunk q := by
      rw [State.trunk_followFlag, if_neg hq]
    rw [List.foldl_cons]
    refine ⟨fun q => ?_, trunks, ?_⟩
    · rw [htrunk q]
      by_cases hq : q = p
      · subst hq
        rw [if_neg hp, if_pos List.mem_cons_self, State.trunk_followFlag, if_pos rfl]
      · rw [hother q hq]
        simp [hq]
    · have hany : l.any (fun q => ((s.followFlag old new p).trunk q).alarmChanges old new &&
          (s.followFlag old new p).announced q) = l.any (fun q => (s.trunk q).alarmChanges old new && s.announced q) := by
        rw [Bool.eq_iff_iff, List.any_eq_true, List.any_eq_true]
        refine exists_congr fun q => and_congr_right fun hq => ?_
        rw [State.announced_eq, State.announced_eq, hother q (by rintro rfl; exact hp hq)]
      rw [hframe, hany, hone, List.any_cons, Bool.or_assoc]

theorem State.followFlag_faults (old new : BitVec 64) (s : State) (p : Port) :
    (s.followFlag old new p).faults = s.faults := by
  unfold State.followFlag
  (repeat' split) <;> rfl

theorem State.dispatches_followFlag (old new : BitVec 64) (s : State) (p : Port) (src : FaultSource) :
    (s.followFlag old new p).dispatches src = s.dispatches src := by
  have hsource : (s.followFlag old new p).source src = s.source src := by
    rw [State.source, State.followFlag_faults, State.source]
  rw [State.dispatches, hsource, State.dispatches]

theorem State.followFlag_inProgress (old new : BitVec 64) (s : State) (p : Port) :
    (s.followFlag old new p).arbiter.inProgress = s.arbiter.inProgress := by
  unfold State.followFlag
  (repeat' split) <;> rfl

/-- A record that fallback has not reached follows the alarm set before fallback or after it. -/
theorem State.fallsBack.followFlag (h : u.fallsBack v ps os) (hp : p ∉ ps) (old new : BitVec 64) :
    (u.followFlag old new p).fallsBack (v.followFlag old new p) ps os := by
  have hsame : v.trunk p = u.trunk p := (h.1 p).trans (if_neg hp)
  have hannounced : v.announced p = u.announced p := by rw [State.announced_eq, State.announced_eq, hsame]
  have hset := h.setTrunk hp ((u.trunk p).followed old new)
  unfold State.followFlag
  rw [hannounced, hsame]
  split
  · split
    · exact hset.reportChange
    · exact hset
  · exact h

theorem State.reachedBy_followFlag (old new : BitVec 64) (u : State) (p : Port) (os : List Occurrence) :
    (u.followFlag old new p).reachedBy os = u.reachedBy os := by
  simp only [State.reachedBy, State.dispatches_followFlag]

theorem State.blockedBy_followFlag (old new : BitVec 64) (u : State) (p : Port) (o : Occurrence) :
    (u.followFlag old new p).blockedBy o = u.blockedBy o := by
  have hcommitted (q : Port) : ((u.followFlag old new p).trunk q).committed = (u.trunk q).committed := by
    rw [State.trunk_followFlag]
    split
    · next hq => rw [hq, TrunkRecord.committed_followed]
    · rfl
  simp only [State.blockedBy, State.dispatches_followFlag, hcommitted]

theorem State.raised.followFlag (h : u.raised v os) (hp : p ∉ u.reachedBy os) (old new : BitVec 64) :
    (u.followFlag old new p).raised (v.followFlag old new p) os := by
  have hfollow := State.fallsBack.followFlag h hp old new
  rwa [State.raised, State.reachedBy_followFlag, funext (State.blockedBy_followFlag old new u p)]

/-- Faults raised with the store free, after those before them. -/
theorem State.raised.raiseAll {more : List Occurrence} (h : u.raised v os) (hfree : v.arbiter.inProgress = none) :
    u.raised (v.raiseAll more) (os ++ more) ∧ (v.raiseAll more).arbiter.inProgress = none := by
  induction more generalizing v os with
  | nil => exact ⟨by simpa [State.raiseAll] using h, hfree⟩
  | cons o more ih =>
    have hrest := ih (h.raise hfree o.1 o.2) (State.raise_inProgress hfree o.1 o.2)
    rwa [List.append_assoc] at hrest

/-- The fault of one record reaches that record alone. -/
theorem TrunkRecord.alarms_cases (old new : BitVec 64) (r : TrunkRecord) (p : Port) :
    r.alarms old new p = [] ∨ ∃ src, r.alarms old new p = [(src, some p)] := by
  unfold TrunkRecord.alarms
  split
  · cases alarmFault r.phase r.commit with
    | none => exact .inl rfl
    | some src => exact .inr ⟨src, rfl⟩
  · exact .inl rfl

theorem State.not_mem_reachedBy_alarms (old new : BitVec 64) (hq : q ≠ p) (h : q ∉ u.reachedBy os) (r : TrunkRecord) :
    q ∉ u.reachedBy (os ++ r.alarms old new p) := by
  rcases r.alarms_cases old new p with hnone | ⟨src, hone⟩
  · rwa [hnone, List.append_nil]
  · rw [hone, State.reachedBy_concat, State.reachedByOne]
    split
    · exact fun hmem => (mem_addPort.mp hmem).elim h hq
    · exact h

/-- The records of a list follow the alarm set in order, each counted at its fault before the next (R155, R180). -/
theorem State.raised.followAlarms {old new : BitVec 64} {l : List Port} (h : u.raised v os)
    (hfree : v.arbiter.inProgress = none) (hnodup : l.Nodup) (hl : ∀ p ∈ l, p ∉ u.reachedBy os) :
    (l.foldl (State.followFlag old new) u).raised (l.foldl (State.followAlarm old new) v)
      (os ++ l.flatMap (fun p => (u.trunk p).alarms old new p)) := by
  induction l generalizing u v os with
  | nil => simpa using h
  | cons p l ih =>
    obtain ⟨hp, hnodup⟩ := List.nodup_cons.mp hnodup
    have hreached := hl p List.mem_cons_self
    have hsame : v.trunk p = u.trunk p := (h.1 p).trans (if_neg hreached)
    have hother {q : Port} (hq : q ∈ l) : q ≠ p := by rintro rfl; exact hp hq
    obtain ⟨hone, hfree'⟩ := (h.followFlag hreached old new).raiseAll (more := (u.trunk p).alarms old new p)
      ((v.followFlag_inProgress old new p).trans hfree)
    rw [← hsame, ← State.followAlarmFlagThenFault] at hone hfree'
    have hrest := ih hone hfree' hnodup fun q hq => by
      rw [State.reachedBy_followFlag]
      exact State.not_mem_reachedBy_alarms old new (hother hq) (hl q (List.mem_cons_of_mem _ hq)) _
    have halarms : l.flatMap (fun q => ((u.followFlag old new p).trunk q).alarms old new q) =
        l.flatMap (fun q => (u.trunk q).alarms old new q) := by
      rw [List.flatMap_def, List.flatMap_def]
      exact congrArg List.flatten (List.map_congr_left fun q hq => by rw [State.trunk_followFlag, if_neg (hother hq)])
    rw [halarms, List.append_assoc, hsame] at hrest
    exact hrest

/-! ## ALARM_FRAME (O53) -/

/-- A whole ALARM frame is taken at the end of the unit in progress, and the re-taking goes on. -/
theorem State.takeAlarmFrame_of_due {payload : List Byte} {rest : List Due} (h : s.due = .alarmFrame payload :: rest) :
    ∃ v, ((s.takeDue (.alarmFrame payload)).atBoundary.alarmReceived payload).resumed v ∧
      s.takeAlarmFrame = v.goOnRetaking.resume := by
  have hdue : s.dueAlarm = some payload := by rw [State.dueAlarm, h]; rfl
  refine ⟨_, State.resumed_moveCursorOf _ (s.takeDue (.alarmFrame payload)).arbiter.inProgress, ?_⟩
  simp only [State.takeAlarmFrame, hdue]
  exact State.onDue_of_mem _ (by rw [h]; exact List.mem_cons_self)

/-- The alarm set replaced whole, with the store free: the flags follow it, and its faults are raised in order. -/
theorem State.raised_alarms (u : State) (set : BitVec 64) (hfree : u.arbiter.inProgress = none) :
    ({ u with
        trunks := Vector.ofFn (fun p => (u.trunk p).followed u.link.alarmSet set)
        link := { u.link with
          alarmSet := set
          changePending := u.link.changePending ||
            allPorts.any (fun p => (u.trunk p).alarmChanges u.link.alarmSet set && u.announced p) } } : State).raised
      (allPorts.foldl (State.followAlarm u.link.alarmSet set) { u with link := { u.link with alarmSet := set } })
      (allPorts.flatMap (fun p => (u.trunk p).alarms u.link.alarmSet set p)) := by
  obtain ⟨b, hb⟩ : ∃ b : State, b = { u with link := { u.link with alarmSet := set } } := ⟨_, rfl⟩
  have hraised := (State.raised_refl b).followAlarms (old := u.link.alarmSet) (new := set) (by rw [hb]; exact hfree)
    allPorts_nodup fun p _ => List.not_mem_nil
  obtain ⟨htrunk, trunks, hframe⟩ := State.foldl_followFlag u.link.alarmSet set allPorts_nodup b
  have htrunks : trunks = Vector.ofFn (fun p => (u.trunk p).followed u.link.alarmSet set) := by
    rw [hframe] at htrunk
    refine Vector.ext fun i hi => ?_
    rw [Vector.getElem_ofFn]
    refine (htrunk ⟨i, hi⟩).trans ((if_pos (List.mem_finRange _)).trans ?_)
    rw [hb]
    rfl
  rw [hframe, htrunks, List.nil_append, hb] at hraised
  exact hraised

/-- The fault of an alarm by phase: FIBRE_ALARM before the commit of a record in roll, FIBRE_DARK after it (R155). -/
theorem alarmFault_toList (phase : Phase) (commit : Bool) (p : Port) :
    ((alarmFault phase commit).map (fun src => (src, some p))).toList =
      if phase = .armed || phase = .rolling || (phase = .rolled && !commit) then [(.fibreAlarm, some p)]
      else if phase = .releasing || phase = .migrated || (phase = .rolled && commit) then [(.fibreDark, some p)]
      else [] := by
  cases phase <;> cases commit <;> rfl

/-- Settles O53. -/
theorem alarmFramesReplaceTheSet : Obligations.AlarmFramesReplaceTheSet := by
  intro s payload rest h u
  have hfree : u.arbiter.inProgress = none := State.atBoundary_free _
  obtain ⟨v, hv, htake⟩ := State.takeAlarmFrame_of_due h
  refine ⟨v, _, congrArg Host.Outcome.next htake, v.goesOn_goOnRetaking, ?_⟩
  change (u.alarmReceived payload).resumed v at hv
  clear_value u
  cases hparsed : parseAlarm payload with
  | none =>
    simp only [State.alarmReceived, hparsed] at hv
    exact (State.raised_raise hfree .linkFrame none).of_resumed hv
  | some set =>
    simp only [State.alarmReceived, hparsed] at hv
    dsimp -zeta only
    intro changes enters flagged uncommitted committed alarms
    have hchanges (p : Port) : (u.trunk p).alarmChanges u.link.alarmSet set = changes p := by
      simp only [TrunkRecord.alarmChanges, changes]
      cases (u.trunk p).binding <;> rfl
    have henters (p : Port) : (u.trunk p).alarmEnters u.link.alarmSet set = enters p := by
      simp only [TrunkRecord.alarmEnters, enters]
      cases (u.trunk p).binding <;> rfl
    have hflagged (p : Port) : (u.trunk p).followed u.link.alarmSet set = flagged p := by
      simp only [TrunkRecord.followed, hchanges, flagged]
    have halarms (p : Port) : (u.trunk p).alarms u.link.alarmSet set p = alarms p := by
      simp only [TrunkRecord.alarms, henters, alarms]
      cases enters p with
      | false => rfl
      | true => exact alarmFault_toList (u.phase p) (u.trunk p).commit p
    have hraised := (u.raised_alarms set hfree).of_resumed hv
    simp only [hchanges, hflagged, halarms] at hraised
    exact hraised

end Sys2Proof.Machine
end
